-- ==== Sys2Proof/Word.lean ====
section
/-! DEFINITION. The value types of the block: bytes, bit positions, and the two opaque
configuration types (00_scope.md R4, R5 and section 5). -/

namespace Sys2Proof

/-- `u8`: a frame byte, UNIT, COMMAND, VALUE, CHECKSUM, the accumulator (00_scope.md R4 `BYTE`). -/
abbrev Byte := BitVec 8

/-- A bit position of a byte, 0 to 7 (00_scope.md R4 `CRC_STEPS`). -/
abbrev BitPos := Fin 8

/-- `PORT_ID`, the transport endpoint identifier: opaque, here the bytes of its text
(00_scope.md R5). DESIGN CHOICE, notes/assumptions/22.md. -/
abbrev PortId := List Byte

/-- `TIMEOUT`, a duration in an unnamed time-unit (00_scope.md R5). DESIGN CHOICE,
notes/assumptions/21.md. -/
abbrev Duration := Rat

/-- A buffer of five bytes, index 0 first (10_state.md R14, R15; 20_memory.md R30). -/
structure Buffer5 where
  b0 : Byte
  b1 : Byte
  b2 : Byte
  b3 : Byte
  b4 : Byte
deriving DecidableEq, Repr

/-- A count of the bytes of such a buffer that hold a frame or a reply: 0 to 5, in 3 bits
(10_state.md R14, R15). -/
abbrev Count5 := Fin 6

end Sys2Proof
end

