-- ==== Sys2Proof/Config.lean ====
section
/-! DEFINITION. What an instance or the environment fixes: the default timeout, the transport's
interface types, the parameters of the checksum, and the free values, which nothing in the model can
evaluate. The constants of the checksum and of the frame stand in Machine/Codec.lean. -/

namespace Sys2Proof

/-- One call of a transport primitive (20_memory.md R31). -/
inductive PortCall where
  /-- `PortOpen(PORT_ID, TIMEOUT)`. -/
  | openPort (port : PortId) (timeout : Duration)
  /-- `PortWrite(s)`. -/
  | write (bytes : List Byte)
  /-- `PortRead(n)`. -/
  | read (count : Nat)
  /-- `PortFlushIn()`. -/
  | flushIn
  /-- `PortFlushOut()`. -/
  | flushOut
  /-- `PortClose()`. -/
  | closePort
deriving DecidableEq, Repr

/-- One oracle draw: whether the primitive fails and, for a read, the bytes that have arrived when
it ends, of which a read of `n` takes the first `n` (20_memory.md R31, R42). -/
structure Draw where
  failed : Bool
  arrived : List Byte
deriving DecidableEq, Repr, Inhabited

/-- A value of the parameter `CRC_TAP`: the bit that a bit-step tests, as a function of the
accumulator, the input byte and the bit position (00_scope.md R5, 93_implementation_defined.md
G1). -/
abbrev CrcTap := Byte → Byte → BitPos → Bool

namespace Config

/-- The parameters of 00_scope.md R5 that the codec takes as an argument. The others of that rule
stand elsewhere: `UNIT`, `PORT_ID` and `TIMEOUT` are operands of `CONSTRUCT` and registers of State,
`VW` is the type `Int` of a command's operand, `LINE_CFG` is outside the model. The values for this
hardware are `Codec.parameters`. -/
structure Parameters where
  /-- `CRC_TAP`. -/
  crcTap : CrcTap

/-- The timeout of `CONSTRUCT` when the host gives none: 1.0 time-unit
(70_reset_and_hazards.md R130). -/
def defaultTimeout : Duration := 1

/-- FREE VALUE: the transport's answer to the last call of a history of calls, where the host
supplies none (20_memory.md R42: "Claims about the block must therefore hold for every `r`").
notes/assumptions/9.md. -/
opaque freeDraw : List PortCall → Draw

/-- FREE VALUE: the byte at an index of a buffer that "holds no value" after an operation
(10_state.md R14, R15; 60_exceptions.md R116). notes/assumptions/8.md. -/
opaque freeByte : Nat → Fin 5 → Byte

/-- FREE VALUE: `RXLEN` after a failed read, which then has "no value" (60_exceptions.md R116).
notes/assumptions/8.md. -/
opaque freeRxLen : Nat → Count5

/-- FREE VALUE: `TXLEN` after a construction that fails to open (60_exceptions.md R116).
notes/assumptions/8.md. -/
opaque freeTxLen : Nat → Count5

/-- FREE VALUE: the four flags of `SW` (0 to 3) and `ACK` (4) after a construction that fails to open
(60_exceptions.md R116). notes/assumptions/8.md. -/
opaque freeFlag : Nat → Fin 5 → Bool

/-- FREE VALUE: `SW.turn` after a construction that fails to open (60_exceptions.md R116).
notes/assumptions/8.md. -/
opaque freeTurn : Nat → BitVec 12

/-- FREE VALUE: `SW.speed` after a construction that fails to open (60_exceptions.md R116).
notes/assumptions/8.md. -/
opaque freeSpeed : Nat → Byte

end Config

end Sys2Proof
end

