-- ==== Sys2Proof/Machine/Codec.lean ====
section
/-! DEFINITION. The codec layer's pure functions on bytes: the checksum bit by bit (40_crc.md) and
the frame encoder (41_framer.md R80), with the constants of 00_scope.md R4. -/

namespace Sys2Proof.Codec

/-- `START` (00_scope.md R4). -/
def startByte : Byte := 0xE6

/-- `CRC_INIT` (00_scope.md R4). -/
def crcInit : Byte := 0x00

/-- `CRC_XOR` (00_scope.md R4). -/
def crcXor : Byte := 0x18

/-- `CRC_TOP` (00_scope.md R4). -/
def crcTop : Byte := 0x80

/-- `REPLY_LEN` (00_scope.md R4). -/
def replyLength : Nat := 5

/-- The value `RUNNING_BIT_I` of `CRC_TAP`: bit `i` of the current accumulator XOR the unmodified
input byte (00_scope.md R5, decision D2). -/
def runningBitI (crc b : Byte) (i : BitPos) : Bool := (crc ^^^ b).getLsbD i.val

/-- The parameters at the values the spec gives them for this hardware (00_scope.md R5, decision D2).
DEDUCED, unsafe: notes/assumptions/4.md. -/
def parameters : Config.Parameters where
  crcTap := runningBitI

/-! ### The checksum for any parameters -/

/-- One bit-step, the pseudocode of 40_crc.md R71, with the tested bit a parameter. -/
def crcBitStepWith (p : Config.Parameters) (crc b : Byte) (i : BitPos) : Byte :=
  if p.crcTap crc b i then ((crc ^^^ crcXor) >>> 1) ||| crcTop else crc >>> 1

/-- The bit positions in the order of 40_crc.md R72. -/
def bitPositions : List BitPos := [0, 1, 2, 3, 4, 5, 6, 7]

/-- Eight bit-steps with one byte (40_crc.md R72). -/
def crcByteWith (p : Config.Parameters) (crc b : Byte) : Byte :=
  bitPositions.foldl (fun c i => crcBitStepWith p c b i) crc

/-- The fold of a byte sequence from the initial value (40_crc.md R73). -/
def checksumWith (p : Config.Parameters) (bytes : List Byte) : Byte :=
  bytes.foldl (crcByteWith p) crcInit

/-! ### The checksum of this hardware -/

/-- One bit-step (40_crc.md R71). -/
def crcBitStep (crc b : Byte) (i : BitPos) : Byte := crcBitStepWith parameters crc b i

/-- `crc_byte(c, b)` (40_crc.md R72). -/
def crcByte (crc b : Byte) : Byte := crcByteWith parameters crc b

/-- `checksum(s)` (40_crc.md R73). -/
def checksum (bytes : List Byte) : Byte := checksumWith parameters bytes

/-! ### Frames -/

/-- The body of a frame, the checksum's input (41_framer.md R80). -/
def frameBody (unit command : Byte) (value : Option Byte) : List Byte :=
  [unit, command] ++ value.toList

/-- `build_frame(unit, command, value)` (41_framer.md R80, R85). -/
def buildFrame (unit command : Byte) (value : Option Byte) : List Byte :=
  [startByte] ++ frameBody unit command value ++ [checksum (frameBody unit command value)]

end Sys2Proof.Codec
end

