-- ==== Sys2Proof/Syntax.lean ====
section
/-! DEFINITION. The operations of the block, one constructor per row of spec/opcode_table.json;
the shape of the command table's rows; what a host can hand to the block; the reasons why a
request frame is none of this block's. -/

namespace Sys2Proof

/-- The 21 operations (00_scope.md R8, 30_encoding.md R55, R61). A command's operand `v` is an
integer of any size and sign (42_commands.md R90, decision D4). -/
inductive Instr where
  | assignAddress (v : Int)
  | releaseAddress
  | setPulsePerTurn (v : Int)
  | setSpeed (v : Int)
  | setMaxSpeed (v : Int)
  | setAcceleration (v : Int)
  | setSlowdown (v : Int)
  | setDirection (v : Int)
  | queryState
  | startMove
  | stopMove
  | crcClr
  | crcBit (b : Byte) (i : BitPos)
  | crcByte (b : Byte)
  | checksum (bytes : List Byte)
  | buildFrame (unit command : Byte) (value : Option Byte)
  | ackTest
  | decodeStatus (reply : List Byte)
  | exchange (command : Byte) (value : Option Byte)
  | construct (port : PortId) (unit : Int) (timeout : Option Duration)
  | teardown
deriving DecidableEq, Repr

/-- The eleven commands, the rows of the command table (10_state.md R22). -/
inductive Command where
  | assignAddress
  | releaseAddress
  | setPulsePerTurn
  | setSpeed
  | setMaxSpeed
  | setAcceleration
  | setSlowdown
  | setDirection
  | queryState
  | startMove
  | stopMove
deriving DecidableEq, Repr

/-- Where a command's VALUE byte comes from: the columns `operand`, `min`, `max_excl`, `valp` and
`fixed` of the command table (42_commands.md R90). -/
inductive ValueSource where
  /-- The host's operand, legal in `[min, maxExcl)`; `valp` = 1. -/
  | operand (min maxExcl : Int)
  /-- No operand; the frame carries this byte; `valp` = 1. -/
  | fixed (value : Byte)
  /-- No operand and no VALUE byte; `valp` = 0. -/
  | absent
deriving DecidableEq, Repr

/-- The column `result` of the command table (42_commands.md R90). -/
inductive CommandResult where
  | bool
  | none
  | status
deriving DecidableEq, Repr

/-- One row of the command table (10_state.md R22). -/
structure CommandRow where
  code : Byte
  source : ValueSource
  result : CommandResult
deriving DecidableEq, Repr

/-- A request read back from its frame (30_encoding.md R60). -/
structure ParsedRequest where
  unit : Byte
  command : Byte
  value : Option Byte
deriving DecidableEq, Repr

/-- Why a byte sequence is no request frame of this block (30_encoding.md R58). -/
inductive DecodeError where
  /-- A length other than 4 or 5. -/
  | wrongLength
  /-- A first byte other than 0xE6. -/
  | wrongStart
  /-- A last byte that is not the checksum of the middle bytes. -/
  | wrongChecksum
  /-- A COMMAND that is not one of the eleven codes: "unknown command". -/
  | unknownCommand
  /-- A UNIT of 255. -/
  | unitOutOfRange
  /-- 0x50 with a VALUE byte. -/
  | unexpectedValue
  /-- Another code without a VALUE byte. -/
  | missingValue
  /-- A VALUE outside the command's operand range. -/
  | valueOutOfRange
  /-- A VALUE other than 0x00 on 0xA1, 0x51 or 0x52. -/
  | fixedValueDiffers
deriving DecidableEq, Repr

/-- What the host hands to the block to start an operation. DESIGN CHOICE: the spec leaves the
selection open (30_encoding.md R61), notes/assumptions/1.md and 2.md. -/
inductive Request where
  /-- An operation by name, with its operands. -/
  | call (i : Instr)
  /-- A command by the request frame that carries it. -/
  | frame (bytes : List Byte)
deriving DecidableEq, Repr

end Sys2Proof
end

