-- ==== Sys2Proof/Machine/State.lean ====
section
/-! DEFINITION. The state of the block (10_state.md), the reasons a step can stop, and the state
right after reset. -/

namespace Sys2Proof.Machine

/-- `SW`, the decoded status word (10_state.md R16). -/
structure StatusWord where
  synchro : Bool
  overflow : Bool
  default : Bool
  direction : Bool
  turn : BitVec 12
  speed : Byte
deriving DecidableEq, Repr

/-- `RES_KIND` (10_state.md R17). -/
inductive ResKind where
  | none
  | bool
  | status
  | fault
deriving DecidableEq, Repr

/-- `FAULT` (10_state.md R17, 60_exceptions.md R110). -/
inductive FaultCode where
  | noFault
  | validation
  | transport
  | protocol
deriving DecidableEq, Repr

/-- Which transport primitive failed (60_exceptions.md R110). -/
inductive FailedPrimitive where
  | openPort
  | flush
  | write
  | read
deriving DecidableEq, Repr

/-- The kinds of `ProtocolError`: the source names one (60_exceptions.md R113). -/
inductive ProtocolKind where
  | decode
deriving DecidableEq, Repr

/-- `FINFO`, what a fault carries (60_exceptions.md R110). -/
inductive FaultInfo where
  /-- The command code and the offending operand. -/
  | validation (code : Byte) (v : Int)
  /-- The primitive that failed. -/
  | transport (which : FailedPrimitive)
  /-- The kind and the length of the short reply. -/
  | protocol (kind : ProtocolKind) (length : Nat)
deriving DecidableEq, Repr

/-- `PHASE`, the position inside the operation in progress (10_state.md R19). -/
inductive Phase where
  | idle
  | validate
  | flush
  | build
  | write
  | read
  | record
  | interpret
deriving DecidableEq, Repr

/-- An event of `TRACE` (10_state.md R21, 41_framer.md R84). -/
inductive Event where
  | send (bytes : List Byte)
  | recv (bytes : List Byte)
deriving DecidableEq, Repr

/-- The machine's stops by a fault of its own: there is none. The block's three faults end an
operation and the block goes on, so each is taken as a next state (60_exceptions.md R116, R117);
notes/assumptions/20.md. -/
inductive Fault
deriving DecidableEq, Repr

/-- Uses to which the spec gives no meaning. All are safe: the model stops. -/
inductive Refusal where
  /-- Raised by the dispatcher for an operation without a meaning in this model; safe. -/
  | notModelled (mnemonic : String)
  /-- Raised by a command or `EXCHANGE` with `OPEN` = 0 (70_reset_and_hazards.md R132, decision
  D17); safe. -/
  | notOpen
  /-- Raised by a command or `EXCHANGE` while `PHASE` is not `IDLE` (70_reset_and_hazards.md R132,
  decision D15); safe. -/
  | busy
  /-- Raised by `CONSTRUCT` on a constructed block (70_reset_and_hazards.md R130); safe. -/
  | alreadyConstructed
  /-- Raised by `CONSTRUCT` with a unit outside 0 to 254 (70_reset_and_hazards.md R130, decision
  D9); safe. -/
  | unitOutOfRange
  /-- Raised by the step for a byte sequence that is no request frame of this block
  (30_encoding.md R58); safe. -/
  | undecodable (why : DecodeError)
  /-- Raised by the step for a request frame with a UNIT byte that differs from the register
  `UNIT`, which no command of this block sends (30_encoding.md R51); safe. -/
  | frameForOtherUnit
  /-- Raised by an `EXCHANGE` that the host starts with a COMMAND that is none of the eleven codes: the
  command layer cannot issue it (30_encoding.md R58, 10_state.md R13, decision D6); safe. -/
  | unassignedCommand
deriving DecidableEq, Repr

/-- The state of the block, with the model's own fields for what the host and the transport will
put in (`requests`, `draws`) and for what the block asked of the transport (`calls`). -/
structure State where
  /-- `UNIT` (R10). -/
  unit : Byte
  /-- `PORT_ID` (R10). -/
  portId : PortId
  /-- `TIMEOUT` (R10). -/
  timeout : Duration
  /-- `OPEN` (R11). -/
  isOpen : Bool
  /-- A `CONSTRUCT` has succeeded: the opposite of the "not yet constructed" of R130 (R124). -/
  constructed : Bool
  /-- `CRC` (R12). -/
  crc : Byte
  /-- `BITI` (R12). -/
  biti : BitPos
  /-- The byte index into the checksum's input (R12). -/
  byteIndex : Nat
  /-- `CMD` (R13). -/
  cmd : Byte
  /-- `VALP` (R13). -/
  valp : Bool
  /-- `VAL` (R13). -/
  val : Byte
  /-- `TXBUF` (R14). -/
  txBuf : Buffer5
  /-- `TXLEN` (R14). -/
  txLen : Count5
  /-- `RXBUF` (R15). -/
  rxBuf : Buffer5
  /-- `RXLEN` (R15). -/
  rxLen : Count5
  /-- `SW` (R16). -/
  sw : StatusWord
  /-- `RES_KIND` (R17). -/
  resKind : ResKind
  /-- `ACK` (R17). -/
  ack : Bool
  /-- `FAULT` (R17). -/
  fault : FaultCode
  /-- `FINFO` (R17). -/
  finfo : FaultInfo
  /-- `PHASE` (R19). -/
  phase : Phase
  /-- `TRACE`, oldest event first (R21). -/
  trace : List Event
  /-- The MODEL's own: what the host will start next. -/
  requests : List Request
  /-- The MODEL's own: the answers the transport will give next; free once the list is empty. -/
  draws : List Draw
  /-- The MODEL's own: the transport primitives called so far, oldest first; read by no rule of
  the block. -/
  calls : List PortCall
  /-- The MODEL's own: the counter the free values are drawn with. -/
  freeCount : Nat
deriving DecidableEq, Repr

/-- The block right after reset, the moment before `CONSTRUCT` (10_state.md R24): `OPEN` = 0,
`FAULT` = `NO_FAULT`, `PHASE` = `IDLE`, `TRACE` empty. Where R24 says "no value" the register
holds the value that notes/assumptions/6.md names (DESIGN CHOICE, unsafe). -/
def State.reset : State where
  unit := 0x00
  portId := []
  timeout := Config.defaultTimeout
  isOpen := false
  constructed := false
  crc := 0x00
  biti := 0
  byteIndex := 0
  cmd := 0x00
  valp := false
  val := 0x00
  txBuf := ⟨0x00, 0x00, 0x00, 0x00, 0x00⟩
  txLen := 0
  rxBuf := ⟨0x00, 0x00, 0x00, 0x00, 0x00⟩
  rxLen := 0
  sw := ⟨false, false, false, false, 0, 0x00⟩
  resKind := .none
  ack := false
  fault := .noFault
  finfo := .validation 0x00 0
  phase := .idle
  trace := []
  requests := []
  draws := []
  calls := []
  freeCount := 0

end Sys2Proof.Machine
end

