-- ==== Sys2Proof/Machine/Flags.lean ====
section
/-! DEFINITION. Every flag and result field the block computes: the ack bit, the six fields of the
status word, and the numeric codes of `FAULT` and `RES_KIND`. There are no arithmetic condition
codes (10_state.md R17). -/

namespace Sys2Proof.Machine

/-- The ack test: any non-empty reply is success (41_framer.md R81). -/
def ackBit (rxLen : Count5) : Bool := decide (1 ≤ rxLen.val)

/-- The status word of reply bytes 1 to 3 (30_encoding.md R54, R57; 41_framer.md R82). The places
of the four flags are decision D3 (DEDUCED, unsafe: notes/assumptions/5.md). -/
def statusOf (r1 r2 r3 : Byte) : StatusWord where
  synchro := r1.getLsbD 7
  overflow := r1.getLsbD 6
  default := r1.getLsbD 5
  direction := r1.getLsbD 4
  turn := ((r1.extractLsb' 0 4).zeroExtend 12 <<< 8) + r2.zeroExtend 12
  speed := r3

/-- `decode_status(reply)`: none for a reply shorter than 5 bytes, otherwise the fields taken from
its first five (41_framer.md R82, R85; decision D8). -/
def decodeStatus : List Byte → Option StatusWord
  | _ :: r1 :: r2 :: r3 :: _ :: _ => some (statusOf r1 r2 r3)
  | _ => none

/-- The code of `RES_KIND` (10_state.md R17). -/
def ResKind.code : ResKind → BitVec 2
  | .none => 0
  | .bool => 1
  | .status => 2
  | .fault => 3

/-- The code of `FAULT` (10_state.md R17, 60_exceptions.md R110). -/
def FaultCode.code : FaultCode → BitVec 2
  | .noFault => 0
  | .validation => 1
  | .transport => 2
  | .protocol => 3

/-- The fault that an information word belongs to (60_exceptions.md R110). -/
def FaultInfo.faultCode : FaultInfo → FaultCode
  | .validation _ _ => .validation
  | .transport _ => .transport
  | .protocol _ _ => .protocol

end Sys2Proof.Machine
end

