-- ==== Sys2Proof/Machine/Operands.lean ====
section
/-! DEFINITION. The command table and the one operand form it has: an integer that is compared
with the row's range and then narrowed to the VALUE byte (42_commands.md R90, 30_encoding.md
R56). -/

namespace Sys2Proof

/-- The command table (42_commands.md R90; 30_encoding.md R55). -/
def Command.row : Command → CommandRow
  | .assignAddress => ⟨0xA0, .operand 0 255, .bool⟩
  | .releaseAddress => ⟨0xA1, .fixed 0x00, .none⟩
  | .setPulsePerTurn => ⟨0xA2, .operand 0 256, .bool⟩
  | .setSpeed => ⟨0xA3, .operand 0 251, .bool⟩
  | .setMaxSpeed => ⟨0xA4, .operand 0 251, .bool⟩
  | .setAcceleration => ⟨0xA5, .operand 1 25, .bool⟩
  | .setSlowdown => ⟨0xA6, .operand 1 25, .bool⟩
  | .setDirection => ⟨0xA7, .operand 0 2, .bool⟩
  | .queryState => ⟨0x50, .absent, .status⟩
  | .startMove => ⟨0x51, .fixed 0x00, .bool⟩
  | .stopMove => ⟨0x52, .fixed 0x00, .bool⟩

/-- The rows of the command table in its order. -/
def Command.all : List Command :=
  [.assignAddress, .releaseAddress, .setPulsePerTurn, .setSpeed, .setMaxSpeed, .setAcceleration,
    .setSlowdown, .setDirection, .queryState, .startMove, .stopMove]

/-- The legal operands of a row lie in `[min, maxExcl)`; a row without an operand has nothing to
check (42_commands.md R90, 60_exceptions.md R111). -/
def ValueSource.accepts (source : ValueSource) (v : Int) : Bool :=
  match source with
  | .operand min maxExcl => decide (min ≤ v) && decide (v < maxExcl)
  | .fixed _ => true
  | .absent => true

/-- The optional VALUE byte of the frame: `v[7:0]` of an accepted operand, the fixed byte, or
none (42_commands.md R90, 30_encoding.md R56). `v` is read only where the row has an operand. -/
def ValueSource.valueByte (source : ValueSource) (v : Int) : Option Byte :=
  match source with
  | .operand _ _ => some (BitVec.ofInt 8 v)
  | .fixed w => some w
  | .absent => none

/-- `UNIT_RANGE`: the unit addresses are 0 to 254 (00_scope.md R4, 20_memory.md R37). -/
def unitInRange (unit : Int) : Bool := decide (0 ≤ unit) && decide (unit < 255)

end Sys2Proof
end

