-- ==== Sys2Proof/Machine/Ops.lean ====
section
/-! DEFINITION. The named operations over the block's registers, buffers and transport, taking a
fault, the exchange sequence, and the one routine that every command runs. -/

namespace Sys2Proof

/-! ### The buffers -/

/-- The bytes of a buffer, index 0 first. -/
def Buffer5.toList (buf : Buffer5) : List Byte := [buf.b0, buf.b1, buf.b2, buf.b3, buf.b4]

/-- A buffer whose first bytes are `bytes` and whose other bytes "hold no value": each of those is
the free byte of its index (10_state.md R14, R15; notes/assumptions/8.md). -/
def Buffer5.holding (bytes : List Byte) (free : Fin 5 → Byte) : Buffer5 where
  b0 := bytes.getD 0 (free 0)
  b1 := bytes.getD 1 (free 1)
  b2 := bytes.getD 2 (free 2)
  b3 := bytes.getD 3 (free 3)
  b4 := bytes.getD 4 (free 4)

namespace Machine

/-- The frame in `TXBUF[0..TXLEN-1]` (10_state.md R14). -/
def State.txFrame (s : State) : List Byte := s.txBuf.toList.take s.txLen.val

/-- The reply in `RXBUF[0..RXLEN-1]` (10_state.md R15). -/
def State.rxReply (s : State) : List Byte := s.rxBuf.toList.take s.rxLen.val

/-- A count of bytes, at most 5. -/
def count5 (n : Nat) : Count5 := ⟨min n 5, by omega⟩

/-- `TXBUF[0..len-1] <- frame ; TXLEN <- len` (41_framer.md R80). -/
def State.storeFrame (s : State) (frame : List Byte) : State :=
  { s with
    txBuf := Buffer5.holding frame (Config.freeByte s.freeCount)
    txLen := count5 frame.length
    freeCount := s.freeCount + 1 }

/-- `RXBUF[0..len-1] <- r ; RXLEN <- len` (41_framer.md R83 step 4). -/
def State.storeReply (s : State) (reply : List Byte) : State :=
  { s with
    rxBuf := Buffer5.holding reply (Config.freeByte s.freeCount)
    rxLen := count5 reply.length
    freeCount := s.freeCount + 1 }

/-- `RXBUF` and `RXLEN` hold "no value" after a failed read (60_exceptions.md R116): free values
(notes/assumptions/8.md). -/
def State.loseReply (s : State) : State :=
  { s with
    rxBuf := Buffer5.holding [] (Config.freeByte s.freeCount)
    rxLen := Config.freeRxLen s.freeCount
    freeCount := s.freeCount + 1 }

/-- `TXBUF` and `TXLEN` hold "no value" (60_exceptions.md R116): free values
(notes/assumptions/8.md). -/
def State.loseFrame (s : State) : State :=
  { s with
    txBuf := Buffer5.holding [] (Config.freeByte s.freeCount)
    txLen := Config.freeTxLen s.freeCount
    freeCount := s.freeCount + 1 }

/-- `SW` and `ACK` hold "no value" (60_exceptions.md R116): free values
(notes/assumptions/8.md). -/
def State.loseResults (s : State) : State :=
  let flag := Config.freeFlag s.freeCount
  { s with
    sw := ⟨flag 0, flag 1, flag 2, flag 3, Config.freeTurn s.freeCount, Config.freeSpeed s.freeCount⟩
    ack := flag 4
    freeCount := s.freeCount + 1 }

/-- The row "open" of the table of 60_exceptions.md R116: the working registers of the framer unit
and the decoder hold "no value". -/
def State.loseWorking (s : State) : State := s.loseFrame.loseReply.loseResults

/-- `PHASE <- p` (10_state.md R19). -/
def State.atPhase (s : State) (p : Phase) : State := { s with phase := p }

/-- `RES_KIND <- k` at the end of a command, and `PHASE <- IDLE` (42_commands.md R90). -/
def State.finish (s : State) (k : ResKind) : State := { s with resKind := k, phase := .idle }

/-! ### Taking a fault

There is no return instruction: the next operation starts from the idle block
(60_exceptions.md R117). -/

/-- `raise F(info)`: `FAULT`, `FINFO`, `RES_KIND` <- `FAULT`, `PHASE` <- `IDLE`; nothing is saved
and nothing is vectored (60_exceptions.md R116). -/
def State.raise (s : State) (info : FaultInfo) : State :=
  { s with fault := info.faultCode, finfo := info, resKind := .fault, phase := .idle }

/-! ### The transport (20_memory.md R31, R42) -/

/-- The answer the transport gives to a call: the next draw of the host's list, or a free one
(notes/assumptions/9.md). -/
def State.answer (s : State) (c : PortCall) : Draw :=
  match s.draws with
  | d :: _ => d
  | [] => Config.freeDraw (s.calls ++ [c])

/-- The call is made and its answer is used up. -/
def State.afterCall (s : State) (c : PortCall) : State :=
  { s with draws := s.draws.tail, calls := s.calls ++ [c] }

/-- The bytes a read of `count` answers with: the first `count` of those that arrived
(20_memory.md R31, R42; notes/assumptions/10.md). -/
def readBytes (d : Draw) (count : Nat) : List Byte := d.arrived.take count

/-- A primitive that only succeeds or fails; a failure raises `TransportError`
(60_exceptions.md R112). -/
def portCall (c : PortCall) (which : FailedPrimitive) (s : State) : Except State State :=
  if (s.answer c).failed then .error ((s.afterCall c).raise (.transport which))
  else .ok (s.afterCall c)

/-- `PortOpen(PORT_ID, TIMEOUT)`; after a failure the working registers hold no value
(70_reset_and_hazards.md R130, 60_exceptions.md R116). -/
def portOpen (s : State) : Except State State :=
  let c := PortCall.openPort s.portId s.timeout
  if (s.answer c).failed then .error ((s.afterCall c).loseWorking.raise (.transport .openPort))
  else .ok (s.afterCall c)

/-- `PortFlushIn()`. -/
def portFlushIn (s : State) : Except State State := portCall .flushIn .flush s

/-- `PortFlushOut()`. -/
def portFlushOut (s : State) : Except State State := portCall .flushOut .flush s

/-- `PortWrite(TXBUF[0 .. TXLEN-1])`. -/
def portWrite (s : State) : Except State State := portCall (.write s.txFrame) .write s

/-- `r = PortRead(5)`, `r` left in `RXBUF`, `RXLEN`; after a failure they hold no value
(41_framer.md R83 step 4, 60_exceptions.md R116). -/
def portRead (s : State) : Except State State :=
  let c := PortCall.read Codec.replyLength
  if (s.answer c).failed then .error ((s.afterCall c).loseReply.raise (.transport .read))
  else .ok ((s.afterCall c).storeReply (readBytes (s.answer c) Codec.replyLength))

/-- `PortClose()`, which does not fail (20_memory.md R31, decision D11): it uses up no answer. -/
def portClose (s : State) : State := { s with calls := s.calls ++ [.closePort] }

/-! ### The CRC unit (40_crc.md) -/

/-- `CRC <- 0x00` (R70). -/
def crcClear (s : State) : State := { s with crc := Codec.crcInit }

/-- One bit-step at position `i` (R71). -/
def crcBit (b : Byte) (i : BitPos) (s : State) : State := { s with crc := Codec.crcBitStep s.crc b i }

/-- The bit-step at `BITI`, which then counts on (R72, 10_state.md R12). -/
def crcNextBit (b : Byte) (s : State) : State :=
  { crcBit b s.biti s with biti := s.biti + 1 }

/-- `n` bit-steps. -/
def crcBits (b : Byte) : Nat → State → State
  | 0, s => s
  | n + 1, s => crcBits b n (crcNextBit b s)

/-- The fold of one input byte: eight bit-steps from `BITI` = 0 (R72). -/
def crcFoldByte (b : Byte) (s : State) : State := crcBits b 8 { s with biti := 0 }

/-- `CRC.BYTE` started by the host: both counters start at 0 (10_state.md R12, R24). The byte index
stays there: one byte alone is not counted (DESIGN CHOICE, unsafe: notes/assumptions/18.md). -/
def crcByteAlone (b : Byte) (s : State) : State := crcFoldByte b { s with byteIndex := 0 }

/-- The fold of the bytes that remain, the byte index counting on (R73, 10_state.md R12). -/
def crcFoldBytes : List Byte → State → State
  | [], s => s
  | b :: bytes, s =>
    let s' := crcFoldByte b s
    crcFoldBytes bytes { s' with byteIndex := s'.byteIndex + 1 }

/-- `CHECKSUM`: clear, then fold every byte in sequence order (R73); both counters start at 0
(10_state.md R24). The result is left in `CRC`. -/
def crcChecksum (bytes : List Byte) (s : State) : State :=
  crcFoldBytes bytes { crcClear s with biti := 0, byteIndex := 0 }

/-! ### The framer unit (41_framer.md) -/

/-- `BUILD_FRAME`: the checksum of the body is computed by the CRC unit, the frame is left in
`TXBUF`, `TXLEN` (R80). -/
def frameBuild (unit command : Byte) (value : Option Byte) (s : State) : State :=
  let body := Codec.frameBody unit command value
  let s' := crcChecksum body s
  s'.storeFrame ([Codec.startByte] ++ body ++ [s'.crc])

/-- `ACK_TEST` (R81). -/
def ackTest (s : State) : State := { s with ack := ackBit s.rxLen }

/-- `DECODE_STATUS`: `SW`, or `ProtocolError` with the length of the short reply (R82,
60_exceptions.md R113). -/
def statusDecode (reply : List Byte) (s : State) : Except State State :=
  match decodeStatus reply with
  | some sw => .ok { s with sw := sw }
  | none => .error (s.raise (.protocol .decode reply.length))

/-- Step 5 of the exchange: first the outgoing frame, then the incoming bytes (R84). -/
def recordExchange (s : State) : State :=
  { s with trace := s.trace ++ [.send s.txFrame, .recv s.rxReply] }

/-- `EXCHANGE`: its five steps in order; the first primitive that fails ends it (R83). -/
def exchange (command : Byte) (value : Option Byte) (s : State) : Except State State :=
  match portFlushIn (s.atPhase .flush) with
  | .error s1 => .error s1
  | .ok s1 =>
  match portFlushOut s1 with
  | .error s2 => .error s2
  | .ok s2 =>
  let s3 := frameBuild s2.unit command value (s2.atPhase .build)
  match portWrite (s3.atPhase .write) with
  | .error s4 => .error s4
  | .ok s4 =>
  match portRead (s4.atPhase .read) with
  | .error s5 => .error s5
  | .ok s5 => .ok (recordExchange (s5.atPhase .record))

/-! ### Commands (42_commands.md) -/

/-- `CMD <- code ; VALP <- valp ; VAL <- the byte inside value, if any` (R90). -/
def State.latch (s : State) (code : Byte) (value : Option Byte) : State :=
  { s with cmd := code, valp := value.isSome, val := value.getD s.val }

/-- What an operation that reaches the transport requires: `OPEN` = 1 and `PHASE` = `IDLE`
(70_reset_and_hazards.md R132). -/
def requireReady (s : State) (run : State → Host.Outcome State Fault Refusal) :
    Host.Outcome State Fault Refusal :=
  if s.isOpen = false then .refused .notOpen
  else if s.phase ≠ .idle then .refused .busy
  else run s

/-- The same for what then always ends in a next state. -/
def whenReady (s : State) (run : State → State) : Host.Outcome State Fault Refusal :=
  requireReady s (fun s => .next (run s))

/-- The interpretation of the reply by the command's result kind (R90). -/
def interpretReply (result : CommandResult) (s : State) : State :=
  match result with
  | .bool => (ackTest s).finish .bool
  | .none => s.finish .none
  | .status =>
    match statusDecode s.rxReply s with
    | .error s' => s'
    | .ok s' => s'.finish .status

/-- The routine of R90 once the block is ready: `FAULT <- NO_FAULT`, validate before any I/O,
latch, exchange, interpret. -/
def commandBody (row : CommandRow) (v : Int) (s : State) : State :=
  let s0 := { s with fault := .noFault, phase := .validate }
  if row.source.accepts v then
    let value := row.source.valueByte v
    match exchange row.code value (s0.latch row.code value) with
    | .error s' => s'
    | .ok s' => interpretReply row.result (s'.atPhase .interpret)
  else s0.raise (.validation row.code v)

/-- A command is one run of the same routine over one row of the table (R90). `v` is read only
where the row has an operand. -/
def runCommand (c : Command) (v : Int) (s : State) : Host.Outcome State Fault Refusal :=
  whenReady s (commandBody c.row v)

end Machine

end Sys2Proof
end

