-- ==== Sys2Proof/Machine/Commands.lean ====
section
/-! DEFINITION. The meanings of the eleven commands (42_commands.md R91 to R101), each a run of the
shared routine over its row of the command table (R90). -/

namespace Sys2Proof.Machine

/-- `assign_address(v)` (R91). -/
def execAssignAddress (v : Int) (s : State) : Host.Outcome State Fault Refusal :=
  runCommand .assignAddress v s

/-- `release_address()` (R92). -/
def execReleaseAddress (s : State) : Host.Outcome State Fault Refusal :=
  runCommand .releaseAddress 0 s

/-- `set_pulse_per_turn(v)` (R93). -/
def execSetPulsePerTurn (v : Int) (s : State) : Host.Outcome State Fault Refusal :=
  runCommand .setPulsePerTurn v s

/-- `set_speed(v)` (R94). -/
def execSetSpeed (v : Int) (s : State) : Host.Outcome State Fault Refusal :=
  runCommand .setSpeed v s

/-- `set_max_speed(v)` (R95). -/
def execSetMaxSpeed (v : Int) (s : State) : Host.Outcome State Fault Refusal :=
  runCommand .setMaxSpeed v s

/-- `set_acceleration(v)` (R96). -/
def execSetAcceleration (v : Int) (s : State) : Host.Outcome State Fault Refusal :=
  runCommand .setAcceleration v s

/-- `set_slowdown(v)` (R97). -/
def execSetSlowdown (v : Int) (s : State) : Host.Outcome State Fault Refusal :=
  runCommand .setSlowdown v s

/-- `set_direction(v)` (R98). -/
def execSetDirection (v : Int) (s : State) : Host.Outcome State Fault Refusal :=
  runCommand .setDirection v s

/-- `query_state()` (R99). -/
def execQueryState (s : State) : Host.Outcome State Fault Refusal := runCommand .queryState 0 s

/-- `start_move()` (R100). -/
def execStartMove (s : State) : Host.Outcome State Fault Refusal := runCommand .startMove 0 s

/-- `stop_move()` (R101). -/
def execStopMove (s : State) : Host.Outcome State Fault Refusal := runCommand .stopMove 0 s

end Sys2Proof.Machine
end

