-- ==== Sys2Proof/Machine/CrcUnit.lean ====
section
/-! DEFINITION. The meanings of the CRC unit's operations (40_crc.md). -/

namespace Sys2Proof.Machine

/-- `CRC.CLR` (R70). -/
def execCrcClr (s : State) : Host.Outcome State Fault Refusal := .next (crcClear s)

/-- `CRC.BIT` (R71). -/
def execCrcBit (b : Byte) (i : BitPos) (s : State) : Host.Outcome State Fault Refusal :=
  .next (crcBit b i s)

/-- `CRC.BYTE` (R72). -/
def execCrcByte (b : Byte) (s : State) : Host.Outcome State Fault Refusal := .next (crcByteAlone b s)

/-- `CHECKSUM` (R73). -/
def execChecksum (bytes : List Byte) (s : State) : Host.Outcome State Fault Refusal :=
  .next (crcChecksum bytes s)

end Sys2Proof.Machine
end

