-- ==== Sys2Proof/WellFormed.lean ====
section
/-! DEFINITION. Which operations have operands that their rules call legal. An operand command
outside its range is no mistake of syntax: it raises `ValidationError` (60_exceptions.md R111);
it has no encoding, so the decoder never gives one. -/

namespace Sys2Proof

/-- The command an operation is, with its operand (0 where it takes none); none for the
block-level operations (00_scope.md R8). -/
def Instr.asCommand : Instr → Option (Command × Int)
  | .assignAddress v => some (.assignAddress, v)
  | .releaseAddress => some (.releaseAddress, 0)
  | .setPulsePerTurn v => some (.setPulsePerTurn, v)
  | .setSpeed v => some (.setSpeed, v)
  | .setMaxSpeed v => some (.setMaxSpeed, v)
  | .setAcceleration v => some (.setAcceleration, v)
  | .setSlowdown v => some (.setSlowdown, v)
  | .setDirection v => some (.setDirection, v)
  | .queryState => some (.queryState, 0)
  | .startMove => some (.startMove, 0)
  | .stopMove => some (.stopMove, 0)
  | .crcClr => none
  | .crcBit _ _ => none
  | .crcByte _ => none
  | .checksum _ => none
  | .buildFrame _ _ _ => none
  | .ackTest => none
  | .decodeStatus _ => none
  | .exchange _ _ => none
  | .construct _ _ _ => none
  | .teardown => none

/-- The operands are legal: a command's operand lies in its range (42_commands.md R90); the unit
of a construction is 0 to 254 and its timeout is a positive duration
(70_reset_and_hazards.md R130, 00_scope.md R5). -/
def Instr.wellFormed (i : Instr) : Bool :=
  match i.asCommand, i with
  | some (c, v), _ => c.row.source.accepts v
  | none, .construct _ unit timeout =>
    unitInRange unit && decide (0 < timeout.getD Config.defaultTimeout)
  | none, _ => true

end Sys2Proof
end

