-- ==== Sys2Proof/Decode.lean ====
section
/-! DEFINITION. Request frames to operations and back: the classifier `parse_request` of
30_encoding.md R60, the decoder built on it with the refusals of R58, the encoder of R50 and R55,
and the host's view of an opcode-table word. -/

namespace Sys2Proof

/-- The operation of a command with its operand. -/
def Command.toInstr (c : Command) (v : Int) : Instr :=
  match c with
  | .assignAddress => .assignAddress v
  | .releaseAddress => .releaseAddress
  | .setPulsePerTurn => .setPulsePerTurn v
  | .setSpeed => .setSpeed v
  | .setMaxSpeed => .setMaxSpeed v
  | .setAcceleration => .setAcceleration v
  | .setSlowdown => .setSlowdown v
  | .setDirection => .setDirection v
  | .queryState => .queryState
  | .startMove => .startMove
  | .stopMove => .stopMove

/-- The command a COMMAND byte names: eleven of the 256 values are assigned (30_encoding.md R55,
R58). -/
def Command.ofCode (code : Byte) : Option Command :=
  Command.all.find? (fun c => c.row.code == code)

/-- `parse_request(s)`, the pseudocode of 30_encoding.md R60. -/
def parseRequest : List Byte → Option ParsedRequest
  | [s0, u, k, c] =>
    if s0 = Codec.startByte ∧ c = Codec.checksum [u, k] then some ⟨u, k, none⟩ else none
  | [s0, u, k, w, c] =>
    if s0 = Codec.startByte ∧ c = Codec.checksum [u, k, w] then some ⟨u, k, some w⟩ else none
  | _ => none

/-- The name of what keeps a sequence from being a frame (30_encoding.md R58). -/
def shapeError (bytes : List Byte) : DecodeError :=
  if bytes.length ≠ 4 ∧ bytes.length ≠ 5 then .wrongLength
  else if bytes.head? ≠ some Codec.startByte then .wrongStart
  else .wrongChecksum

/-- The operation of a command whose frame carries this VALUE, or the name of what is wrong with the
VALUE: present, absent, fixed or in range as the command's row says (30_encoding.md R55, R58). -/
def Command.withValue (c : Command) (value : Option Byte) : Except DecodeError Instr :=
  match c.row.source, value with
  | .absent, none => .ok (c.toInstr 0)
  | .absent, some _ => .error .unexpectedValue
  | .fixed _, none => .error .missingValue
  | .fixed w, some w' => if w' = w then .ok (c.toInstr 0) else .error .fixedValueDiffers
  | .operand _ _, none => .error .missingValue
  | .operand min maxExcl, some w =>
    if (ValueSource.operand min maxExcl).accepts w.toNat then .ok (c.toInstr w.toNat)
    else .error .valueOutOfRange

/-- The command of a well-shaped request: COMMAND one of the eleven codes, UNIT 0 to 254, VALUE
as the command's row says (30_encoding.md R55, R58). -/
def classify (p : ParsedRequest) : Except DecodeError (Byte × Instr) :=
  match Command.ofCode p.command with
  | none => .error .unknownCommand
  | some c =>
    if p.unit = 0xFF then .error .unitOutOfRange
    else (c.withValue p.value).map (fun i => (p.unit, i))

/-- The decoder, total on every byte sequence: the UNIT byte and the operation of a request frame
of this block, or the name of what is wrong with it (30_encoding.md R55, R58, R60). -/
def decode (bytes : List Byte) : Except DecodeError (Byte × Instr) :=
  match parseRequest bytes with
  | some p => classify p
  | none => .error (shapeError bytes)

/-- The encoder: the request frame that carries an operation to a unit, formats `REQ4` and `REQ5`
(30_encoding.md R50, R55); none for an operation that no frame carries (R61) and for an operand
outside its range. -/
def encode (unit : Byte) (i : Instr) : Option (List Byte) :=
  match i.asCommand with
  | some (c, v) =>
    if c.row.source.accepts v then
      some (Codec.buildFrame unit c.row.code (c.row.source.valueByte v))
    else none
  | none => none

/-- The bytes of an `nbits`-bit number as spec/opcode_table.json numbers a frame: one big-endian
integer, byte 0 most significant (30_encoding.md R50). -/
def tableBytes (nbits w : Nat) : List Byte :=
  (List.range (nbits / 8)).map (fun k => BitVec.ofNat 8 (w >>> (nbits - 8 * (k + 1))))

/-- The last byte of a frame computed from the bytes between START and it. -/
def sealFrame (bytes : List Byte) : List Byte :=
  bytes.dropLast ++ [Codec.checksum bytes.dropLast.tail]

/-- The frame of an opcode-table word. The table gives the CHECKSUM bits no value of their own
("computed", 30_encoding.md R51, R55): a word that leaves them zero is completed, any other word
stands as it is. DESIGN CHOICE, notes/assumptions/3.md. -/
def tableFrame (nbits w : Nat) : List Byte :=
  let bytes := tableBytes nbits w
  if bytes.getLast? = some 0x00 then sealFrame bytes else bytes

/-- The operation the decoder reads from an opcode-table word. -/
def decodeTableWord (nbits w : Nat) : Option Instr :=
  match decode (tableFrame nbits w) with
  | .ok (_, i) => some i
  | .error _ => none

end Sys2Proof
end

