-- ==== Sys2Proof/Machine/FramerUnit.lean ====
section
/-! DEFINITION. The meanings of the framer unit's and the status decoder's operations
(41_framer.md). -/

namespace Sys2Proof.Machine

/-- `BUILD_FRAME` (R80). -/
def execBuildFrame (unit command : Byte) (value : Option Byte) (s : State) :
    Host.Outcome State Fault Refusal :=
  .next (frameBuild unit command value s)

/-- `ACK_TEST` (R81). It runs in every state, with `OPEN` = 0 and whatever `PHASE`: R81 names no
requirement. DESIGN CHOICE, unsafe: 70_reset_and_hazards.md R132 lists it neither with the operations
that need nothing nor with those that need an open idle block; notes/assumptions/30.md. -/
def execAckTest (s : State) : Host.Outcome State Fault Refusal := .next (ackTest s)

/-- `DECODE_STATUS` (R82): a short reply takes `ProtocolError`. -/
def execDecodeStatus (reply : List Byte) (s : State) : Host.Outcome State Fault Refusal :=
  match statusDecode reply s with
  | .error s' => .next s'
  | .ok s' => .next s'

/-- The five steps of `EXCHANGE`, after which the block is idle (R83). -/
def exchangeAlone (command : Byte) (value : Option Byte) (s : State) : State :=
  match exchange command value s with
  | .error s' => s'
  | .ok s' => s'.atPhase .idle

/-- `EXCHANGE` started by the host (R83): the latches, `FAULT` and `RES_KIND` are a command's
(10_state.md R13, 90_conflicts.md C10; notes/assumptions/16.md). It sends each of the eleven codes with
any VALUE byte or none, since R83 checks no value; an unassigned code is refused: `EXCHANGE` is of the
command layer (00_scope.md R8), which cannot issue it (30_encoding.md R58, decision D6). DEDUCED,
unsafe: notes/assumptions/29.md. -/
def execExchange (command : Byte) (value : Option Byte) (s : State) :
    Host.Outcome State Fault Refusal :=
  requireReady s fun s =>
    match Command.ofCode command with
    | none => .refused .unassignedCommand
    | some _ => .next (exchangeAlone command value s)

end Sys2Proof.Machine
end

