-- ==== Sys2Proof/Machine/Lifecycle.lean ====
section
/-! DEFINITION. The meanings of `CONSTRUCT` and `TEARDOWN` (70_reset_and_hazards.md R130, R131). -/

namespace Sys2Proof.Machine

/-- `CONSTRUCT(port, unit, timeout)` (R130); no timeout given stands for the default. DEDUCED, unsafe:
a construction that succeeds keeps the registers its pseudocode does not write, as decision D14 has
it, with what raw operations left there; notes/assumptions/15.md. -/
def execConstruct (port : PortId) (unit : Int) (timeout : Option Duration) (s : State) :
    Host.Outcome State Fault Refusal :=
  if s.constructed then .refused .alreadyConstructed
  else if unitInRange unit then
    match portOpen { s with portId := port, unit := BitVec.ofInt 8 unit,
                            timeout := timeout.getD Config.defaultTimeout } with
    | .error s' => .next s'
    | .ok s' =>
      .next { s' with isOpen := true, constructed := true, phase := .idle, fault := .noFault,
                      trace := [] }
  else .refused .unitOutOfRange

/-- `TEARDOWN()` (R131). -/
def execTeardown (s : State) : Host.Outcome State Fault Refusal :=
  if s.isOpen then .next { portClose s with isOpen := false } else .next s

end Sys2Proof.Machine
end

