-- ==== Sys2Proof/Machine/Dispatch.lean ====
section
/-! DEFINITION. One arm per operation. -/

namespace Sys2Proof.Machine

def exec (i : Instr) (s : State) : Host.Outcome State Fault Refusal :=
  match i with
  | .assignAddress v => Sys2Proof.Machine.execAssignAddress v s
  | .releaseAddress => Sys2Proof.Machine.execReleaseAddress s
  | .setPulsePerTurn v => Sys2Proof.Machine.execSetPulsePerTurn v s
  | .setSpeed v => Sys2Proof.Machine.execSetSpeed v s
  | .setMaxSpeed v => Sys2Proof.Machine.execSetMaxSpeed v s
  | .setAcceleration v => Sys2Proof.Machine.execSetAcceleration v s
  | .setSlowdown v => Sys2Proof.Machine.execSetSlowdown v s
  | .setDirection v => Sys2Proof.Machine.execSetDirection v s
  | .queryState => Sys2Proof.Machine.execQueryState s
  | .startMove => Sys2Proof.Machine.execStartMove s
  | .stopMove => Sys2Proof.Machine.execStopMove s
  | .crcClr => Sys2Proof.Machine.execCrcClr s
  | .crcBit b pos => Sys2Proof.Machine.execCrcBit b pos s
  | .crcByte b => Sys2Proof.Machine.execCrcByte b s
  | .checksum bytes => Sys2Proof.Machine.execChecksum bytes s
  | .buildFrame unit command value => Sys2Proof.Machine.execBuildFrame unit command value s
  | .ackTest => Sys2Proof.Machine.execAckTest s
  | .decodeStatus reply => Sys2Proof.Machine.execDecodeStatus reply s
  | .exchange command value => Sys2Proof.Machine.execExchange command value s
  | .construct port unit timeout => Sys2Proof.Machine.execConstruct port unit timeout s
  | .teardown => Sys2Proof.Machine.execTeardown s

end Sys2Proof.Machine
end

