-- ==== Sys2Proof/Machine/Fetch.lean ====
section
/-! DEFINITION. From what the host hands to the block to the operation it starts: there is no
program counter and no instruction memory (10_state.md R19, 20_memory.md R41). -/

namespace Sys2Proof.Machine

/-- The operation a request starts. A request frame must decode (30_encoding.md R58) and carry the
block's own `UNIT`, as every frame a command sends does (30_encoding.md R51);
notes/assumptions/2.md. -/
def operationOf (unit : Byte) (r : Request) : Except Refusal Instr :=
  match r with
  | .call i => .ok i
  | .frame bytes =>
    match decode bytes with
    | .error e => .error (.undecodable e)
    | .ok (u, i) => if u = unit then .ok i else .error .frameForOtherUnit

end Sys2Proof.Machine
end

