-- ==== Sys2Proof/Machine/Step.lean ====
section
/-! DEFINITION. One step: the next operation of the host runs whole (00_scope.md R9). -/

namespace Sys2Proof.Machine

/-- The host's next request is taken and its operation runs; without a request the block stays
idle (notes/assumptions/28.md). -/
def step (s : State) : Host.Outcome State Fault Refusal :=
  match s.requests with
  | [] => .next s
  | r :: rest =>
    match operationOf s.unit r with
    | .error why => .refused why
    | .ok i => exec i { s with requests := rest }

/-- The state in which the host starts the command of an opcode-table word next. The word's frame
stands first among the requests, and what a command needs to be taken holds: the block is
constructed, open and idle (70_reset_and_hazards.md R132) and its `UNIT` is the one the frame
carries (30_encoding.md R51). It stands for a `CONSTRUCT` followed by the host's request
(notes/assumptions/1.md, 3.md). -/
def State.withFetchWord (s : State) (nbits w : Nat) : State :=
  let frame := tableFrame nbits w
  { s with
    requests := .frame frame :: s.requests
    unit := frame.getD 1 s.unit
    isOpen := true
    constructed := true
    phase := .idle }

end Sys2Proof.Machine
end

