-- ==== Sys2Proof/Safety.lean ====
section
/-! DEFINITION. The terms that the claims use: what the transport will answer to an exchange, what
an exchange leaves, what a recorded history looks like, and what a sane state is. -/

namespace Sys2Proof.Machine

/-! ### The transport's side of one exchange -/

/-- The primitives an exchange calls, in order (41_framer.md R83). -/
def exchangeCalls (frame : List Byte) : List PortCall :=
  [.flushIn, .flushOut, .write frame, .read 5]

/-- The answers the transport will give to a sequence of calls made from `s`. -/
def State.upcoming (s : State) : List PortCall → List Draw
  | [] => []
  | c :: cs => s.answer c :: (s.afterCall c).upcoming cs

/-- The reply of an exchange that writes `frame`, if none of its primitives fails. -/
def State.exchangeReply (s : State) (frame : List Byte) : Option (List Byte) :=
  if (s.upcoming (exchangeCalls frame)).all (fun d => !d.failed) then
    (s.upcoming (exchangeCalls frame)).getLast?.map (fun d => d.arrived.take 5)
  else none

/-- The index, 0 to 3, of the first primitive that fails in an exchange that writes `frame`. -/
def State.firstFailure (s : State) (frame : List Byte) : Option Nat :=
  (s.upcoming (exchangeCalls frame)).findIdx? (fun d => d.failed)

/-- `OPEN` = 1 and `PHASE` = `IDLE`: the block takes commands (70_reset_and_hazards.md R132). -/
abbrev State.ready (s : State) : Prop := s.isOpen = true ∧ s.phase = .idle

/-! ### What an exchange leaves -/

/-- The calls are made and their answers are used up. -/
def State.afterCalls (s : State) (cs : List PortCall) : State :=
  { s with calls := s.calls ++ cs, draws := s.draws.drop cs.length }

/-- `BUILD_FRAME` has run: the frame stands in `TXBUF`, its checksum in `CRC` (41_framer.md
R80). -/
def State.built (s : State) (unit code : Byte) (value : Option Byte) : State :=
  { s with
    crc := Codec.checksum (Codec.frameBody unit code value)
    biti := 0
    byteIndex := (Codec.frameBody unit code value).length
    txBuf := Buffer5.holding (Codec.buildFrame unit code value) (Config.freeByte s.freeCount)
    txLen := count5 (Codec.buildFrame unit code value).length
    freeCount := s.freeCount + 1 }

/-- An exchange has run to its end with this reply (41_framer.md R83). -/
def State.exchanged (s : State) (code : Byte) (value : Option Byte) (reply : List Byte) : State :=
  let frame := Codec.buildFrame s.unit code value
  { (s.built s.unit code value).afterCalls (exchangeCalls frame) with
    rxBuf := Buffer5.holding reply (Config.freeByte (s.freeCount + 1))
    rxLen := count5 reply.length
    freeCount := s.freeCount + 2
    trace := s.trace ++ [.send frame, .recv reply] }

/-- An exchange has ended at the failing primitive of index `k`, with the fault taken: the rows
`FLUSH`, `WRITE` and `READ` of the table of 60_exceptions.md R116. -/
def State.exchangeFailed (s : State) (code : Byte) (value : Option Byte) (k : Nat) : State :=
  let calls := (exchangeCalls (Codec.buildFrame s.unit code value)).take (k + 1)
  match k with
  | 0 => (s.afterCalls calls).raise (.transport .flush)
  | 1 => (s.afterCalls calls).raise (.transport .flush)
  | 2 => ((s.built s.unit code value).afterCalls calls).raise (.transport .write)
  | _ => ((s.built s.unit code value).afterCalls calls).loseReply.raise (.transport .read)

/-- The start of a command: `FAULT <- NO_FAULT`, the operands latched (42_commands.md R90). -/
def State.commandStarted (s : State) (code : Byte) (value : Option Byte) : State :=
  { s with fault := .noFault, cmd := code, valp := value.isSome, val := value.getD s.val }

/-! ### Histories -/

/-- A request frame to this unit (30_encoding.md R50, R60). -/
def isRequestTo (unit : Byte) (frame : List Byte) : Bool :=
  match parseRequest frame with
  | some p => p.unit == unit
  | none => false

/-- `TRACE` is a sequence of pairs: `Send` of a request frame to the unit, then `Recv` of at most
five bytes (41_framer.md R84, 60_exceptions.md R123). -/
def pairedTrace (unit : Byte) : List Event → Bool
  | [] => true
  | .send frame :: .recv reply :: rest =>
    isRequestTo unit frame && decide (reply.length ≤ 5) && pairedTrace unit rest
  | _ => false

/-- How often the transport was closed. -/
def closeCount (calls : List PortCall) : Nat := calls.count .closePort

/-- What every operation keeps: the block is idle between operations (10_state.md R19); an open
block is constructed and has a legal unit (R10, R11); a fault code is reported as such, with the
information of that fault (R17, 60_exceptions.md R116); before construction there is no trace, and
the trace is paired (R21); the transport has been closed once if the block was torn down and never
otherwise (70_reset_and_hazards.md R131). -/
structure State.Sane (s : State) : Prop where
  idle : s.phase = .idle
  open_constructed : s.isOpen = true → s.constructed = true
  unit_legal : s.constructed = true → s.unit ≠ 0xFF
  fault_reported : s.fault ≠ .noFault → s.resKind = .fault ∧ s.finfo.faultCode = s.fault
  no_trace_before : s.constructed = false → s.trace = []
  trace_paired : pairedTrace s.unit s.trace = true
  closed_once : closeCount s.calls = if s.constructed = true ∧ s.isOpen = false then 1 else 0

end Sys2Proof.Machine
end

