-- ==== Sys2Proof/Certificates/Slice0/Obligations.lean ====
section
/-! DEFINITION. The statements for the provers. The helpers in `Sys2Proof.Claims` only shorten them.

Three conventions. `s.ready` is "`OPEN` = 1 and `PHASE` = `IDLE`" (70_reset_and_hazards.md R132).
`s.exchangeReply frame = some reply` says what the transport will answer to the four primitives of
an exchange that writes `frame`: none fails, and the read answers `reply`;
`s.firstFailure frame = some k` says that primitive `k` (0 flush in, 1 flush out, 2 write, 3 read)
is the first that fails. Every state is one or the other. Where an equation gives the whole next
state as an update of `s`, every register it does not name is unchanged.

What such statements rest on beside the rules they cite. Every checksum, and every frame that carries
one, is the one of `CRC_TAP` = `RUNNING_BIT_I`, the spec's decision D2 (DEDUCED, unsafe:
notes/assumptions/4.md). The fields `biti`, `byteIndex` and `freeCount` are the model's
(notes/assumptions/8.md, 18.md), and so is the free content of the buffer bytes past the frame or the
reply (notes/assumptions/8.md). `FINFO` keeps its content when `FAULT` is cleared (DEDUCED, unsafe:
notes/assumptions/15.md). Which primitives can fail is the spec's decision D11, that every primitive returns
its decision D10 (both notes/assumptions/11.md: DEDUCED, unsafe for a primitive that hangs),
what a fault carries its decision D18, what a fault leaves its decision D12. -/

open Sys2Proof Sys2Proof.Machine

namespace Sys2Proof.Claims

/-- The state after a command whose exchange ended with `reply`, before its result is written. -/
def afterExchange (s : State) (code : Byte) (value : Option Byte) (reply : List Byte) : State :=
  (s.commandStarted code value).exchanged code value reply

/-- A ready block on a transport that answers `reply` runs `i` to the result kind `BOOL`. -/
def CompletesAsBool (i : Instr) (code : Byte) (value : Option Byte) : Prop :=
  ∀ (s : State) (reply : List Byte), s.ready →
    s.exchangeReply (Codec.buildFrame s.unit code value) = some reply →
    exec i s = .next { afterExchange s code value reply with
                       ack := decide (reply ≠ []), resKind := .bool }

/-- The same for a command with an operand, for every operand of its range. -/
def OperandCompletes (mk : Int → Instr) (code : Byte) (lo hi : Int) : Prop :=
  ∀ v : Int, lo ≤ v → v < hi → CompletesAsBool (mk v) code (some (BitVec.ofInt 8 v))

/-- A ready block rejects every operand outside the range before any I/O. -/
def OperandRejected (mk : Int → Instr) (code : Byte) (lo hi : Int) : Prop :=
  ∀ (v : Int) (s : State), s.ready → (v < lo ∨ hi ≤ v) →
    exec (mk v) s = .next { s with fault := .validation, finfo := .validation code v,
                                   resKind := .fault, phase := .idle }

/-- Which primitive the index of a failing call stands for. -/
def failedPrimitive (k : Nat) : FailedPrimitive :=
  if k < 2 then .flush else if k = 2 then .write else .read

/-- A ready block whose transport first fails at primitive `k` takes `TransportError` there. The next
state is the one that `State.exchangeFailed` gives from `start s`, the state in which the exchange
began; the other clauses say what that is, register by register: the row of the table of
60_exceptions.md R116, the accumulator, the latches, and what is unchanged. -/
def FailsWithTransport (i : Instr) (code : Byte) (value : Option Byte) (start : State → State) :
    Prop :=
  ∀ (s : State) (k : Nat), s.ready →
    s.firstFailure (Codec.buildFrame s.unit code value) = some k →
    ∃ t, exec i s = .next t ∧ k < 4 ∧ t = (start s).exchangeFailed code value k ∧
      t.fault = .transport ∧ t.finfo = .transport (failedPrimitive k) ∧ t.resKind = .fault ∧
      t.phase = .idle ∧ t.isOpen = true ∧ t.constructed = s.constructed ∧
      t.calls = s.calls ++ (exchangeCalls (Codec.buildFrame s.unit code value)).take (k + 1) ∧
      t.draws = s.draws.drop (k + 1) ∧ t.requests = s.requests ∧
      (k < 2 → t.txBuf = s.txBuf ∧ t.txLen = s.txLen ∧ t.crc = s.crc) ∧
      (2 ≤ k → t.txFrame = Codec.buildFrame s.unit code value ∧
        t.crc = Codec.checksum (Codec.frameBody s.unit code value)) ∧
      (k < 3 → t.rxBuf = s.rxBuf ∧ t.rxLen = s.rxLen) ∧
      t.cmd = (start s).cmd ∧ t.valp = (start s).valp ∧ t.val = (start s).val ∧
      t.sw = s.sw ∧ t.ack = s.ack ∧ t.trace = s.trace ∧
      t.unit = s.unit ∧ t.portId = s.portId ∧ t.timeout = s.timeout

/-- The same for a command, whose exchange begins with the operands latched and `FAULT` cleared. -/
def CommandFailsWithTransport (i : Instr) (code : Byte) (value : Option Byte) : Prop :=
  FailsWithTransport i code value (fun s => s.commandStarted code value)

/-- The same for every operand of a range. -/
def OperandFailsWithTransport (mk : Int → Instr) (code : Byte) (lo hi : Int) : Prop :=
  ∀ v : Int, lo ≤ v → v < hi → CommandFailsWithTransport (mk v) code (some (BitVec.ofInt 8 v))

/-- The operation is refused on a block that is not open, and on one that is in an operation. -/
def NeedsReady (i : Instr) : Prop :=
  ∀ s : State, (s.isOpen = false → exec i s = .refused .notOpen) ∧
    (s.isOpen = true → s.phase ≠ .idle → exec i s = .refused .busy)

/-- On an empty reply the command reports `ACK` = 0 and no fault; no content of a reply is a
fault. -/
def ShortReplyIsNoFault (i : Instr) (code : Byte) (value : Option Byte) : Prop :=
  ∀ (s : State) (reply : List Byte), s.ready →
    s.exchangeReply (Codec.buildFrame s.unit code value) = some reply →
    ∃ t, exec i s = .next t ∧ t.fault = .noFault ∧ t.resKind = .bool ∧
      (reply = [] → t.ack = false)

/-- The constants `K[0..7]` of 40_crc.md R76 (b). -/
def crcBasis : List Byte := [0xF5, 0x2D, 0x2F, 0x08, 0xDB, 0x23, 0xCA, 0x8C]

/-- `B[b]`: the XOR of the constants over the set bits of `b` (40_crc.md R76 (b)). -/
def crcTable (b : Byte) : Byte :=
  (Codec.bitPositions.zip crcBasis).foldl
    (fun acc p => if b.getLsbD p.1.val then acc ^^^ p.2 else acc) 0x00

/-- `e(c) = c[0] + 2*c[2] + 4*c[4] + 8*c[6]` (40_crc.md R76 (c)). -/
def evenBits (c : Byte) : Byte :=
  BitVec.ofNat 8 ((c.getLsbD 0).toNat + 2 * (c.getLsbD 2).toNat + 4 * (c.getLsbD 4).toNat +
    8 * (c.getLsbD 6).toNat)

/-- The request frame a command with a legal operand sends. -/
def commandFrame (unit : Byte) (c : Command) (v : Int) : List Byte :=
  Codec.buildFrame unit c.row.code (c.row.source.valueByte v)

end Sys2Proof.Claims

open Sys2Proof.Claims

/-! ### The step, the decoder and the encoder -/

/-- A step runs the operation that the host's next request stands for, the request taken off the
list; a frame stands for the command it decodes to, if it carries the block's own unit; a frame
that does not decode and one for another unit are refused by name; without a request the block
stays as it is. The request list is the model's choice (notes/assumptions/1.md, 2.md, 28.md). -/
def Obligations.StepRunsTheHostsNextOperation : Prop :=
  ∀ (s : State) (rest : List Request),
    (∀ i, s.requests = .call i :: rest → step s = exec i { s with requests := rest }) ∧
    (∀ bytes i, s.requests = .frame bytes :: rest → decode bytes = .ok (s.unit, i) →
      step s = exec i { s with requests := rest }) ∧
    (∀ bytes u i, s.requests = .frame bytes :: rest → decode bytes = .ok (u, i) → u ≠ s.unit →
      step s = .refused .frameForOtherUnit) ∧
    (∀ bytes e, s.requests = .frame bytes :: rest → decode bytes = .error e →
      step s = .refused (.undecodable e)) ∧
    (s.requests = [] → step s = .next s)

/-- Every command with a legal operand, to every unit 0 to 254, has a frame, and the frame decodes
to that unit and that command. -/
def Obligations.EveryEncodedCommandDecodesToItself : Prop :=
  ∀ (u : Byte) (i : Instr), u ≠ 0xFF → i.asCommand.isSome = true → i.wellFormed = true →
    ∃ bytes, encode u i = some bytes ∧ decode bytes = .ok (u, i)

/-- Whatever decodes is the encoding of what it decodes to: the decoder accepts no other frame. -/
def Obligations.EveryDecodedFrameIsItsCommandsEncoding : Prop :=
  ∀ (bytes : List Byte) (u : Byte) (i : Instr), decode bytes = .ok (u, i) →
    encode u i = some bytes ∧ i.wellFormed = true ∧ u ≠ 0xFF

/-- `parse_request` and `BUILD_FRAME` are inverse (the laws of 30_encoding.md R60, which the spec
marks as derived). -/
def Obligations.ParseRequestAndBuildFrameAreInverse : Prop :=
  (∀ (u k : Byte) (w : Option Byte), parseRequest (Codec.buildFrame u k w) = some ⟨u, k, w⟩) ∧
  (∀ (bytes : List Byte) (p : ParsedRequest), parseRequest bytes = some p →
    Codec.buildFrame p.unit p.command p.value = bytes)

/-- Frames of 95_test_vectors.md D4 decode to the commands they are listed for; their checksums rest on
decision D2 (notes/assumptions/4.md). -/
def Obligations.SampleFramesDecode : Prop :=
  decode [0xE6, 0x01, 0xA0, 0x05, 0xFD] = .ok (0x01, .assignAddress 5) ∧
  decode [0xE6, 0x01, 0xA3, 0x64, 0xC6] = .ok (0x01, .setSpeed 100) ∧
  decode [0xE6, 0x05, 0xA6, 0x0C, 0x27] = .ok (0x05, .setSlowdown 12) ∧
  decode [0xE6, 0x01, 0x50, 0xEE] = .ok (0x01, .queryState) ∧
  decode [0xE6, 0xFE, 0x51, 0x00, 0x25] = .ok (0xFE, .startMove)

/-- Every frame of the raw encoder that no command sends is refused by the name of what is wrong
with it, and so is every sequence the encoder does not build (30_encoding.md R58, which the spec
marks as derived and decided). -/
def Obligations.FramesOfNoCommandAreRefusedByName : Prop :=
  (∀ (u k : Byte) (w : Option Byte), Command.ofCode k = none →
    decode (Codec.buildFrame u k w) = .error .unknownCommand) ∧
  (∀ (c : Command) (w : Option Byte),
    decode (Codec.buildFrame 0xFF c.row.code w) = .error .unitOutOfRange) ∧
  (∀ (u : Byte) (w : Byte), u ≠ 0xFF →
    decode (Codec.buildFrame u 0x50 (some w)) = .error .unexpectedValue) ∧
  (∀ (c : Command) (u : Byte), u ≠ 0xFF → c ≠ .queryState →
    decode (Codec.buildFrame u c.row.code none) = .error .missingValue) ∧
  (∀ (u w : Byte), u ≠ 0xFF → w ≠ 0x00 →
    decode (Codec.buildFrame u 0xA1 (some w)) = .error .fixedValueDiffers ∧
    decode (Codec.buildFrame u 0x51 (some w)) = .error .fixedValueDiffers ∧
    decode (Codec.buildFrame u 0x52 (some w)) = .error .fixedValueDiffers) ∧
  (∀ (c : Command) (lo hi : Int) (u w : Byte), u ≠ 0xFF → c.row.source = .operand lo hi →
    ((w.toNat : Int) < lo ∨ hi ≤ (w.toNat : Int)) →
    decode (Codec.buildFrame u c.row.code (some w)) = .error .valueOutOfRange) ∧
  (∀ bytes : List Byte, bytes.length ≠ 4 → bytes.length ≠ 5 → decode bytes = .error .wrongLength) ∧
  (∀ bytes : List Byte, (bytes.length = 4 ∨ bytes.length = 5) → bytes.head? ≠ some 0xE6 →
    decode bytes = .error .wrongStart) ∧
  (∀ bytes : List Byte, (bytes.length = 4 ∨ bytes.length = 5) → bytes.head? = some 0xE6 →
    bytes.getLast? ≠ some (Codec.checksum bytes.tail.dropLast) →
    decode bytes = .error .wrongChecksum)

/-! ### The CRC unit -/

/-- 40_crc.md R70: `CRC.CLR` makes the accumulator 0x00, whatever it held, and writes nothing
else. -/
def Obligations.CrcClrZeroesTheAccumulator : Prop :=
  ∀ s : State, exec .crcClr s = .next { s with crc := 0x00 }

/-- 40_crc.md R71 under the spec's decision D2: one bit-step, on every accumulator, byte and position,
writing `CRC` and nothing else; with accumulator and byte 0x00 it leaves 0x00; the rule's example.
Which bit is tested is D2 (DEDUCED, unsafe: notes/assumptions/4.md). -/
def Obligations.CrcBitIsOneBitStep : Prop :=
  (∀ (s : State) (b : Byte) (i : BitPos),
    exec (.crcBit b i) s = .next { s with
      crc := if (s.crc ^^^ b).getLsbD i.val then ((s.crc ^^^ 0x18) >>> 1) ||| 0x80 else s.crc >>> 1 }) ∧
  (∀ i : BitPos, Codec.crcBitStep 0x00 0x00 i = 0x00) ∧
  (∀ s : State, s.crc = 0x46 → exec (.crcBit 0x01 2) s = .next { s with crc := 0xAF })

/-- 40_crc.md R72: eight bit-steps with the same byte, positions 0 to 7 in order, with the rule's
example step by step; another order gives another function; of the registers only `CRC` changes,
and the two counters inside the operation. The values are those of decision D2, the running
accumulator and the unmodified byte (DEDUCED, unsafe: notes/assumptions/4.md); the counters between
operations are the model's (notes/assumptions/18.md). -/
def Obligations.CrcByteIsEightBitSteps : Prop :=
  (∀ (s : State) (b : Byte), ∃ t, exec (.crcByte b) s = .next t ∧
    t = { s with crc := t.crc, biti := t.biti, byteIndex := t.byteIndex } ∧
    t.crc = Codec.crcBitStep (Codec.crcBitStep (Codec.crcBitStep (Codec.crcBitStep
      (Codec.crcBitStep (Codec.crcBitStep (Codec.crcBitStep (Codec.crcBitStep s.crc b 0) b 1) b 2)
        b 3) b 4) b 5) b 6) b 7) ∧
  Codec.crcByte 0x00 0x00 = 0x00 ∧
  Codec.bitPositions.scanl (fun c i => Codec.crcBitStep c 0x01 i) 0x00 =
    [0x00, 0x8C, 0x46, 0xAF, 0xDB, 0xE1, 0xFC, 0xF2, 0xF5] ∧
  Codec.crcByte 0x00 0x01 = 0xF5 ∧
  Codec.bitPositions.reverse.foldl (fun c i => Codec.crcBitStep c 0x01 i) 0x00 ≠ 0xF5

/-- 40_crc.md R73: `CHECKSUM` leaves in `CRC` a function of its input alone: 0x00 for no byte, and
one fold more for one byte more; zeros of any length give 0x00. (That the empty sequence gives
0x00 is the spec's decision D24; the values of the examples rest on D2, notes/assumptions/4.md.) -/
def Obligations.ChecksumFoldsItsInputFromZero : Prop :=
  (∀ (s : State) (bytes : List Byte), ∃ t, exec (.checksum bytes) s = .next t ∧
    t = { s with crc := t.crc, biti := t.biti, byteIndex := t.byteIndex } ∧
    t.crc = Codec.checksum bytes) ∧
  Codec.checksum [] = 0x00 ∧
  (∀ (bytes : List Byte) (b : Byte),
    Codec.checksum (bytes ++ [b]) = Codec.crcByte (Codec.checksum bytes) b) ∧
  (∀ n : Nat, Codec.checksum (List.replicate n 0x00) = 0x00) ∧
  Codec.checksum [0x01, 0x50] = 0xEE ∧ Codec.checksum [0x01, 0x50, 0x00] = 0x25 ∧
  Codec.checksum [0x01, 0xA3, 0x64] = 0xC6

/-- 40_crc.md R75, and the last corner case of R71 (both derived): the taken branch is
`(c >> 1) XOR 0x8C`; a taken bit-step sets bit 7, an untaken one clears it. Which step is taken is
decision D2 (notes/assumptions/4.md). -/
def Obligations.TakenBranchHasAnEqualForm : Prop :=
  (∀ c : Byte, ((c ^^^ 0x18) >>> 1) ||| 0x80 = (c >>> 1) ^^^ 0x8C) ∧
  (∀ (c b : Byte) (i : BitPos),
    Codec.crcBitStep c b i = (c >>> 1) ^^^ (if (c ^^^ b).getLsbD i.val then 0x8C else 0x00)) ∧
  (∀ (c b : Byte) (i : BitPos), (Codec.crcBitStep c b i).getLsbD 7 = (c ^^^ b).getLsbD i.val)

/-- 40_crc.md R76 (a) (derived), of the checksum of decision D2 (notes/assumptions/4.md). -/
def Obligations.CrcByteIsLinear : Prop :=
  ∀ c1 c2 b1 b2 : Byte,
    Codec.crcByte (c1 ^^^ c2) (b1 ^^^ b2) = Codec.crcByte c1 b1 ^^^ Codec.crcByte c2 b2

/-- 40_crc.md R76 (b), (c) and R77 (derived): the bit-by-bit fold equals the table form
`B[b XOR e(c)]` on every accumulator and byte, so `CHECKSUM` leaves in `CRC` what the table-driven
checksum computes. Both are the checksum of decision D2 (notes/assumptions/4.md). -/
def Obligations.ChecksumEqualsItsTableForm : Prop :=
  (∀ c b : Byte, Codec.crcByte c b = crcTable (b ^^^ evenBits c)) ∧
  (∀ (s : State) (bytes : List Byte), ∃ t, exec (.checksum bytes) s = .next t ∧
    t.crc = bytes.foldl (fun c b => crcTable (b ^^^ evenBits c)) 0x00)

/-- 40_crc.md R76 (b), (d) (derived): the last byte of the input matters in full; the odd bits of
the accumulator before a byte do not matter. A property of the checksum of decision D2
(notes/assumptions/4.md). -/
def Obligations.ChecksumSeesTheLastByteInFull : Prop :=
  (∀ (bytes : List Byte) (b b' : Byte),
    Codec.checksum (bytes ++ [b]) = Codec.checksum (bytes ++ [b']) → b = b') ∧
  (∀ c b : Byte, Codec.crcByte c b = Codec.crcByte (c &&& 0x55) b)

/-! ### The framer unit and the status decoder -/

/-- 41_framer.md R80: on every unit, command and optional value, `BUILD_FRAME` leaves the frame and
its length in `TXBUF` and `TXLEN` and the checksum in `CRC`, and writes nothing else of the
registers (the counters of the checksum and the model's `freeCount` apart). The checksum bytes of the
two example frames are those of decision D2 (DEDUCED, unsafe: notes/assumptions/4.md). -/
def Obligations.BuildFrameLeavesTheFrame : Prop :=
  (∀ (s : State) (unit command : Byte) (value : Option Byte),
    ∃ t, exec (.buildFrame unit command value) s = .next t ∧
      t.txFrame = [0xE6] ++ ([unit, command] ++ value.toList) ++
        [Codec.checksum ([unit, command] ++ value.toList)] ∧
      t.txLen.val = 4 + (if value.isSome then 1 else 0) ∧
      t.crc = Codec.checksum ([unit, command] ++ value.toList) ∧
      t = { s with txBuf := t.txBuf, txLen := t.txLen, crc := t.crc, biti := t.biti,
                   byteIndex := t.byteIndex, freeCount := t.freeCount }) ∧
  Codec.buildFrame 0x01 0xA3 (some 0x64) = [0xE6, 0x01, 0xA3, 0x64, 0xC6] ∧
  Codec.buildFrame 0x01 0x50 none = [0xE6, 0x01, 0x50, 0xEE]

/-- 41_framer.md R81: `ACK` is 1 when the reply has a byte and 0 when it has none; nothing else is
written. That it does so with `OPEN` = 0 and in every `PHASE` is the model's choice (unsafe:
notes/assumptions/30.md). -/
def Obligations.AckTestIsTheNonEmptyTest : Prop :=
  ∀ s : State,
    (1 ≤ s.rxLen.val → exec .ackTest s = .next { s with ack := true }) ∧
    (s.rxLen.val = 0 → exec .ackTest s = .next { s with ack := false })

/-- 41_framer.md R82: the six fields come from reply bytes 1 to 3; byte 0, byte 4 and what follows
do not matter; only `SW` is written. (The places of the four flags are the spec's decision D3,
notes/assumptions/5.md; that more than five bytes are decoded is its decision D8.) -/
def Obligations.DecodeStatusExtractsSixFields : Prop :=
  ∀ (s : State) (r0 r1 r2 r3 r4 : Byte) (more : List Byte),
    ∃ t, exec (.decodeStatus (r0 :: r1 :: r2 :: r3 :: r4 :: more)) s = .next t ∧
      t = { s with sw := t.sw } ∧
      t.sw.synchro = r1.getLsbD 7 ∧ t.sw.overflow = r1.getLsbD 6 ∧ t.sw.default = r1.getLsbD 5 ∧
      t.sw.direction = r1.getLsbD 4 ∧
      t.sw.turn.toNat = (r1.toNat % 16) * 256 + r2.toNat ∧ t.sw.speed = r3

/-- 60_exceptions.md R113: `DECODE_STATUS` on fewer than five bytes raises `ProtocolError` with the
length and writes no `SW`; `query_state` does so after its exchange was completed and traced; no
other operation raises it. What the fault carries is the spec's decision D18, what taking it writes
is R116; that `query_state` keeps `VAL` is the model's reading (DEDUCED, unsafe:
notes/assumptions/17.md). -/
def Obligations.ProtocolErrorComesFromShortStatusReplies : Prop :=
  (∀ (s : State) (reply : List Byte), reply.length < 5 →
    exec (.decodeStatus reply) s = .next { s with
      fault := .protocol, finfo := .protocol .decode reply.length, resKind := .fault,
      phase := .idle }) ∧
  (∀ (s : State) (reply : List Byte), s.ready →
    s.exchangeReply (Codec.buildFrame s.unit 0x50 none) = some reply → reply.length < 5 →
    exec .queryState s = .next { afterExchange s 0x50 none reply with
      fault := .protocol, finfo := .protocol .decode reply.length, resKind := .fault }) ∧
  (∀ (i : Instr) (s t : State), exec i s = .next t → t.fault = .protocol →
    i = .queryState ∨ (∃ reply, i = .decodeStatus reply) ∨ s.fault = .protocol)

/-- 20_memory.md R33: the high four bits of `turn` are the low nibble of reply byte 1, the earlier one,
its low eight bits are reply byte 2; the source's example. -/
def Obligations.TurnTakesTheEarlierByteAsItsHighPart : Prop :=
  (∀ (s : State) (r0 r1 r2 r3 r4 : Byte), ∃ t,
    exec (.decodeStatus [r0, r1, r2, r3, r4]) s = .next t ∧
    t.sw.turn.extractLsb' 8 4 = r1.extractLsb' 0 4 ∧ t.sw.turn.extractLsb' 0 8 = r2) ∧
  (∀ (s : State) (r0 r3 r4 : Byte), ∃ t,
    exec (.decodeStatus [r0, 0xB5, 0x02, r3, r4]) s = .next t ∧ t.sw.turn = 1282)

/-- 41_framer.md R83, R84: on a ready block whose transport does not fail, `EXCHANGE` of each of the
eleven codes with any VALUE byte or none flushes, builds the frame for the register `UNIT`, writes it,
reads the reply, and records both. It writes no latch, no `FAULT` and no `RES_KIND`, which is the
model's reading (notes/assumptions/16.md). -/
def Obligations.ExchangeRunsItsFiveSteps : Prop :=
  ∀ (s : State) (c : Command) (value : Option Byte) (reply : List Byte), s.ready →
    s.exchangeReply (Codec.buildFrame s.unit c.row.code value) = some reply →
    ∃ t, exec (.exchange c.row.code value) s = .next t ∧
      t = s.exchanged c.row.code value reply ∧
      t.txFrame = Codec.buildFrame s.unit c.row.code value ∧ t.rxReply = reply ∧ reply.length ≤ 5

/-- 41_framer.md R83, 60_exceptions.md R112, R116: a primitive that fails ends `EXCHANGE` with
`TransportError`; everything before it has happened, nothing after it has (decisions D11, D12). That
the latches are not written is the model's reading (notes/assumptions/16.md). -/
def Obligations.ExchangeStopsAtAFailingPrimitive : Prop :=
  ∀ (c : Command) (value : Option Byte),
    FailsWithTransport (.exchange c.row.code value) c.row.code value id

/-- 41_framer.md R83, 30_encoding.md R58 (a): on a ready block `EXCHANGE` runs with each of the eleven
codes and any VALUE byte or none, and is refused with every unassigned code; a code is unassigned when
no row of the command table has it. That the command layer's closed set (decision D6) binds a
host-started `EXCHANGE`, and binds its code alone, is the model's reading (DEDUCED, unsafe:
notes/assumptions/29.md). -/
def Obligations.ExchangeRunsWithTheElevenCodesOnly : Prop :=
  ∀ s : State, s.ready →
    (∀ (c : Command) (value : Option Byte), ∃ t, exec (.exchange c.row.code value) s = .next t) ∧
    (∀ (code : Byte) (value : Option Byte), (∀ c : Command, c.row.code ≠ code) →
      exec (.exchange code value) s = .refused .unassignedCommand)

/-! ### The eleven commands -/

/-- 42_commands.md R90, R91, R93 to R98: each of the seven operand commands, for every operand of
its range, runs its exchange and reports `BOOL` with the ack bit; the latches hold the code and the
operand, `FAULT` is `NO_FAULT`, everything else is as the exchange leaves it. That `FINFO` keeps its
content is the model's reading (DEDUCED, unsafe: notes/assumptions/15.md). -/
def Obligations.OperandCommandsComplete : Prop :=
  OperandCompletes .assignAddress 0xA0 0 255 ∧
  OperandCompletes .setPulsePerTurn 0xA2 0 256 ∧
  OperandCompletes .setSpeed 0xA3 0 251 ∧
  OperandCompletes .setMaxSpeed 0xA4 0 251 ∧
  OperandCompletes .setAcceleration 0xA5 1 25 ∧
  OperandCompletes .setSlowdown 0xA6 1 25 ∧
  OperandCompletes .setDirection 0xA7 0 2

/-- 42_commands.md R100, R101: `start_move` and `stop_move` send VALUE 0x00 and report `BOOL`.
That `FINFO` keeps its content is the model's reading (DEDUCED, unsafe: notes/assumptions/15.md). -/
def Obligations.MotionCommandsComplete : Prop :=
  CompletesAsBool .startMove 0x51 (some 0x00) ∧ CompletesAsBool .stopMove 0x52 (some 0x00)

/-- 42_commands.md R92: `release_address` sends VALUE 0x00, runs the whole exchange, reports `NONE`
whatever the reply, and leaves `ACK` and `UNIT`; its only fault is `TransportError`. That the whole
exchange runs for the kind `NONE` is the spec's decision D21, that a flush can fail its decision D11
(notes/assumptions/11.md); that `FINFO` keeps its content is the model's reading (DEDUCED, unsafe:
notes/assumptions/15.md); the checksum 0xD8 is that of decision D2 (notes/assumptions/4.md). -/
def Obligations.ReleaseAddressReportsNothing : Prop :=
  (∀ (s : State) (reply : List Byte), s.ready →
    s.exchangeReply (Codec.buildFrame s.unit 0xA1 (some 0x00)) = some reply →
    exec .releaseAddress s = .next { afterExchange s 0xA1 (some 0x00) reply with resKind := .none } ∧
    (afterExchange s 0xA1 (some 0x00) reply).trace = s.trace ++
      [.send [0xE6, s.unit, 0xA1, 0x00, Codec.checksum [s.unit, 0xA1, 0x00]], .recv reply] ∧
    (afterExchange s 0xA1 (some 0x00) reply).ack = s.ack) ∧
  (∀ (s t : State), exec .releaseAddress s = .next t →
    t.unit = s.unit ∧ t.fault ≠ .validation ∧ t.fault ≠ .protocol) ∧
  CommandFailsWithTransport .releaseAddress 0xA1 (some 0x00) ∧
  Codec.buildFrame 0x01 0xA1 (some 0x00) = [0xE6, 0x01, 0xA1, 0x00, 0xD8]

/-- 42_commands.md R99: on a reply of five bytes `query_state` reports `STATUS` with the fields of
the reply in `SW`. Its frame has no VALUE byte; `VAL` keeps its value, which is the model's reading
(notes/assumptions/17.md), and so is that `FINFO` keeps its content (DEDUCED, unsafe:
notes/assumptions/15.md); the places of the flags are the spec's decision D3
(notes/assumptions/5.md). -/
def Obligations.QueryStateReportsTheStatusWord : Prop :=
  ∀ (s : State) (r0 r1 r2 r3 r4 : Byte), s.ready →
    s.exchangeReply (Codec.buildFrame s.unit 0x50 none) = some [r0, r1, r2, r3, r4] →
    ∃ sw, exec .queryState s = .next { afterExchange s 0x50 none [r0, r1, r2, r3, r4] with
        sw := sw, resKind := .status } ∧
      sw.synchro = r1.getLsbD 7 ∧ sw.overflow = r1.getLsbD 6 ∧ sw.default = r1.getLsbD 5 ∧
      sw.direction = r1.getLsbD 4 ∧ sw.turn.toNat = (r1.toNat % 16) * 256 + r2.toNat ∧
      sw.speed = r3

/-- 60_exceptions.md R111: on a ready block, whatever its transport would answer, an operand outside
the range raises `ValidationError` with the code and the operand, and nothing else of the state
changes: no call, no frame, no trace. No other operation raises it. That an operand is an integer of
any size and sign is the spec's decision D4 (DEDUCED, unsafe: notes/assumptions/25.md), what the fault
carries its decision D18; `RES_KIND` and `PHASE` are R116. -/
def Obligations.IllegalOperandsRaiseValidationError : Prop :=
  OperandRejected .assignAddress 0xA0 0 255 ∧
  OperandRejected .setPulsePerTurn 0xA2 0 256 ∧
  OperandRejected .setSpeed 0xA3 0 251 ∧
  OperandRejected .setMaxSpeed 0xA4 0 251 ∧
  OperandRejected .setAcceleration 0xA5 1 25 ∧
  OperandRejected .setSlowdown 0xA6 1 25 ∧
  OperandRejected .setDirection 0xA7 0 2 ∧
  (∀ (i : Instr) (s t : State), exec i s = .next t → t.fault = .validation →
    s.fault = .validation ∨ (∃ c v lo hi, i.asCommand = some (c, v) ∧
      c.row.source = .operand lo hi ∧ ¬(lo ≤ v ∧ v < hi)))

/-- 60_exceptions.md R112, R115, R116: each of the eleven commands with a legal operand takes
`TransportError` at the first primitive that fails, with every register as R116 has it (decisions D11,
D12); `query_state` then raises no `ProtocolError`, and that it keeps `VAL` is the model's reading
(notes/assumptions/17.md). -/
def Obligations.CommandsStopAtAFailingPrimitive : Prop :=
  OperandFailsWithTransport .assignAddress 0xA0 0 255 ∧
  OperandFailsWithTransport .setPulsePerTurn 0xA2 0 256 ∧
  OperandFailsWithTransport .setSpeed 0xA3 0 251 ∧
  OperandFailsWithTransport .setMaxSpeed 0xA4 0 251 ∧
  OperandFailsWithTransport .setAcceleration 0xA5 1 25 ∧
  OperandFailsWithTransport .setSlowdown 0xA6 1 25 ∧
  OperandFailsWithTransport .setDirection 0xA7 0 2 ∧
  CommandFailsWithTransport .releaseAddress 0xA1 (some 0x00) ∧
  CommandFailsWithTransport .queryState 0x50 none ∧
  CommandFailsWithTransport .startMove 0x51 (some 0x00) ∧
  CommandFailsWithTransport .stopMove 0x52 (some 0x00)

/-- 60_exceptions.md R114: a short or empty reply is no fault of the simple commands: the nine `BOOL`
commands, where an empty one gives `ACK` = 0, and `release_address`; no content of a full reply is a fault of
`query_state`; a frame built with an unassigned code is no fault. -/
def Obligations.ShortRepliesOfSimpleCommandsAreNoFaults : Prop :=
  (∀ v : Int, 0 ≤ v → v < 255 → ShortReplyIsNoFault (.assignAddress v) 0xA0 (some (BitVec.ofInt 8 v))) ∧
  (∀ v : Int, 0 ≤ v → v < 256 →
    ShortReplyIsNoFault (.setPulsePerTurn v) 0xA2 (some (BitVec.ofInt 8 v))) ∧
  (∀ v : Int, 0 ≤ v → v < 251 → ShortReplyIsNoFault (.setSpeed v) 0xA3 (some (BitVec.ofInt 8 v))) ∧
  (∀ v : Int, 0 ≤ v → v < 251 → ShortReplyIsNoFault (.setMaxSpeed v) 0xA4 (some (BitVec.ofInt 8 v))) ∧
  (∀ v : Int, 1 ≤ v → v < 25 →
    ShortReplyIsNoFault (.setAcceleration v) 0xA5 (some (BitVec.ofInt 8 v))) ∧
  (∀ v : Int, 1 ≤ v → v < 25 → ShortReplyIsNoFault (.setSlowdown v) 0xA6 (some (BitVec.ofInt 8 v))) ∧
  (∀ v : Int, 0 ≤ v → v < 2 → ShortReplyIsNoFault (.setDirection v) 0xA7 (some (BitVec.ofInt 8 v))) ∧
  ShortReplyIsNoFault .startMove 0x51 (some 0x00) ∧
  ShortReplyIsNoFault .stopMove 0x52 (some 0x00) ∧
  (∀ (s : State) (reply : List Byte), s.ready →
    s.exchangeReply (Codec.buildFrame s.unit 0xA1 (some 0x00)) = some reply →
    ∃ t, exec .releaseAddress s = .next t ∧ t.fault = .noFault ∧ t.resKind = .none) ∧
  (∀ (s : State) (reply : List Byte), s.ready → reply.length = 5 →
    s.exchangeReply (Codec.buildFrame s.unit 0x50 none) = some reply →
    ∃ t, exec .queryState s = .next t ∧ t.fault = .noFault ∧ t.resKind = .status) ∧
  (∀ (s : State) (unit command : Byte) (value : Option Byte),
    ∃ t, exec (.buildFrame unit command value) s = .next t ∧ t.fault = s.fault ∧
      t.resKind = s.resKind)

/-- 70_reset_and_hazards.md R132: every command and `EXCHANGE` need `OPEN` = 1 and `PHASE` = `IDLE`;
the model refuses them otherwise (decisions D15, D17, notes/assumptions/14.md). -/
def Obligations.CommandsNeedAnOpenIdleBlock : Prop :=
  (∀ v : Int, NeedsReady (.assignAddress v) ∧ NeedsReady (.setPulsePerTurn v) ∧
    NeedsReady (.setSpeed v) ∧ NeedsReady (.setMaxSpeed v) ∧ NeedsReady (.setAcceleration v) ∧
    NeedsReady (.setSlowdown v) ∧ NeedsReady (.setDirection v)) ∧
  NeedsReady .releaseAddress ∧ NeedsReady .queryState ∧ NeedsReady .startMove ∧
  NeedsReady .stopMove ∧
  (∀ (command : Byte) (value : Option Byte), NeedsReady (.exchange command value))

/-- 42_commands.md R103: the frame a command sends depends on `UNIT`, the command and its operand
alone; its result depends on those and on the reply alone. Two blocks that differ in everything else
(history, buffers, earlier results) end with the same frame, reply, result and fault. -/
def Obligations.CommandResultsDependOnUnitOperandAndReply : Prop :=
  ∀ (c : Command) (v : Int) (s1 s2 : State) (reply : List Byte),
    (c.toInstr v).wellFormed = true → s1.ready → s2.ready → s1.unit = s2.unit →
    s1.exchangeReply (commandFrame s1.unit c v) = some reply →
    s2.exchangeReply (commandFrame s2.unit c v) = some reply →
    ∃ t1 t2, exec (c.toInstr v) s1 = .next t1 ∧ exec (c.toInstr v) s2 = .next t2 ∧
      t1.txFrame = commandFrame s1.unit c v ∧ t1.txFrame = t2.txFrame ∧
      t1.rxReply = reply ∧ t2.rxReply = reply ∧
      t1.resKind = t2.resKind ∧ t1.fault = t2.fault ∧
      (t1.resKind = .bool → t1.ack = t2.ack) ∧
      (t1.resKind = .status → t1.sw = t2.sw) ∧
      (t1.resKind = .fault → t1.finfo = t2.finfo)

/-! ### Construction, teardown, configuration -/

/-- 70_reset_and_hazards.md R130: `CONSTRUCT` on a block not yet constructed, with a unit 0 to 254
and a transport that opens: it makes one call, `PortOpen`, and writes the configuration, `OPEN`,
`PHASE`, `FAULT` and `TRACE`; a timeout not given is 1.0. That every register its
pseudocode does not write keeps its content, `RES_KIND` and `FINFO` too, is the model's reading of
decision D14 (DEDUCED, unsafe: notes/assumptions/15.md), and the flag `constructed` is its own (notes/assumptions/13.md). -/
def Obligations.ConstructOpensTheTransport : Prop :=
  ∀ (s : State) (port : PortId) (unit : Int) (timeout : Option Duration),
    s.constructed = false → 0 ≤ unit → unit < 255 →
    (s.answer (.openPort port (timeout.getD 1))).failed = false →
    exec (.construct port unit timeout) s = .next
      { s with
        portId := port, unit := BitVec.ofInt 8 unit, timeout := timeout.getD 1, isOpen := true,
        constructed := true, phase := .idle, fault := .noFault, trace := [],
        calls := s.calls ++ [.openPort port (timeout.getD 1)], draws := s.draws.drop 1 }

/-- 70_reset_and_hazards.md R130: a transport that does not open raises `TransportError(open)` and
`OPEN` stays as it was; a second construction and a unit outside 0 to 254 are refused (the spec's
decision D9, notes/assumptions/14.md). A failed construction leaves "no value" in `TXBUF`, `TXLEN`,
`RXBUF`, `RXLEN`, `SW` and `ACK` (60_exceptions.md R116, row open): nothing is said of them here. That
it leaves the configuration written is the model's choice (unsafe: notes/assumptions/13.md). -/
def Obligations.ConstructFailsOrIsRefused : Prop :=
  ∀ (s : State) (port : PortId) (unit : Int) (timeout : Option Duration),
    (s.constructed = true → exec (.construct port unit timeout) s = .refused .alreadyConstructed) ∧
    (s.constructed = false → (unit < 0 ∨ 255 ≤ unit) →
      exec (.construct port unit timeout) s = .refused .unitOutOfRange) ∧
    (s.constructed = false → 0 ≤ unit → unit < 255 →
      (s.answer (.openPort port (timeout.getD 1))).failed = true →
      ∃ t, exec (.construct port unit timeout) s = .next t ∧ t =
        { s with
          portId := port, unit := BitVec.ofInt 8 unit, timeout := timeout.getD 1,
          fault := .transport, finfo := .transport .openPort, resKind := .fault, phase := .idle,
          calls := s.calls ++ [.openPort port (timeout.getD 1)], draws := s.draws.drop 1,
          txBuf := t.txBuf, txLen := t.txLen, rxBuf := t.rxBuf, rxLen := t.rxLen, sw := t.sw,
          ack := t.ack, freeCount := t.freeCount })

/-- 70_reset_and_hazards.md R131: `TEARDOWN` of an open block closes the transport and clears
`OPEN`, sends nothing and leaves everything else, `FAULT` too; of a closed block it does nothing; so
a second one does nothing, and after it no command has a meaning (decision D17). That closing does not
fail is decision D11 (notes/assumptions/11.md). -/
def Obligations.TeardownClosesTheTransportOnce : Prop :=
  (∀ s : State, s.isOpen = true →
    exec .teardown s = .next { s with isOpen := false, calls := s.calls ++ [.closePort] }) ∧
  (∀ s : State, s.isOpen = false → exec .teardown s = .next s) ∧
  (∀ s t : State, exec .teardown s = .next t → exec .teardown t = .next t ∧
    exec .queryState t = .refused .notOpen ∧ exec .stopMove t = .refused .notOpen)

/-- 10_state.md R10, 42_commands.md R102: on a constructed block no operation writes `UNIT`,
`PORT_ID` or `TIMEOUT`, and no command ever does. -/
def Obligations.NoOperationWritesTheConfiguration : Prop :=
  ∀ (i : Instr) (s t : State), exec i s = .next t →
    (s.constructed = true ∨ i.asCommand.isSome = true) →
    t.unit = s.unit ∧ t.portId = s.portId ∧ t.timeout = s.timeout

/-- 42_commands.md R102, 70_reset_and_hazards.md R137: after an acknowledged `assign_address` the
block still addresses its frames to the old unit. -/
def Obligations.AssignAddressDoesNotMoveTheUnit : Prop :=
  ∀ (s t u : State) (v : Int) (reply reply' : List Byte), s.ready → 0 ≤ v → v < 255 →
    s.exchangeReply (Codec.buildFrame s.unit 0xA0 (some (BitVec.ofInt 8 v))) = some reply →
    reply ≠ [] → exec (.assignAddress v) s = .next t →
    t.ack = true ∧ t.unit = s.unit ∧
    (t.exchangeReply (Codec.buildFrame s.unit 0x50 none) = some reply' →
      exec .queryState t = .next u → u.txFrame = Codec.buildFrame s.unit 0x50 none)

/-! ### The whole machine -/

/-- 20_memory.md R31, R38: what one operation asks of the transport. A command and `EXCHANGE` make a
first part of flush in, flush out, one write, one read, or nothing; `CONSTRUCT` opens; `TEARDOWN`
closes or does nothing; the other operations ask for nothing. -/
def Obligations.EveryOperationsTransportCalls : Prop :=
  ∀ (i : Instr) (s t : State), exec i s = .next t →
    ∃ cs, t.calls = s.calls ++ cs ∧
      match i with
      | .construct port _ timeout => cs = [.openPort port (timeout.getD 1)]
      | .teardown => cs = [.closePort] ∨ cs = []
      | .exchange command value =>
        ∃ n, cs = (exchangeCalls (Codec.buildFrame s.unit command value)).take n
      | _ => (i.asCommand = none → cs = []) ∧
        ∀ c v, i.asCommand = some (c, v) → ∃ n, cs = (exchangeCalls (commandFrame s.unit c v)).take n

/-- 30_encoding.md R58 (a): whatever operation runs, a frame it writes to the transport carries one of
the eleven codes, to the block's unit; the frame a command writes carries a legal operand as well. For
a host-started `EXCHANGE` this is the model's reading (notes/assumptions/29.md). -/
def Obligations.EveryWrittenFrameCarriesAnAssignedCode : Prop :=
  ∀ (i : Instr) (s t : State) (cs : List PortCall) (frame : List Byte), exec i s = .next t →
    t.calls = s.calls ++ cs → PortCall.write frame ∈ cs →
    (∃ (c : Command) (value : Option Byte), frame = Codec.buildFrame s.unit c.row.code value) ∧
    ((∀ code value, i ≠ .exchange code value) →
      ∃ (c : Command) (v : Int), c.row.source.accepts v = true ∧ frame = commandFrame s.unit c v)

/-- 70_reset_and_hazards.md R141, 60_exceptions.md R117, 10_state.md R19: on a ready constructed
block every operation runs to its end, whatever the transport answers, and leaves the block idle;
only `TEARDOWN` closes it. Not asked of a second `CONSTRUCT` and of an `EXCHANGE` of an unassigned
code, which are refused. That every primitive returns is assumed of the transport: the spec's decision
D10 (R141); that `PortClose` does not fail is its decision D11 (DEDUCED, unsafe for a primitive that
hangs: notes/assumptions/11.md). -/
def Obligations.EveryOperationEndsWithTheBlockIdle : Prop :=
  ∀ (i : Instr) (s : State), s.ready → s.constructed = true →
    (∀ port unit timeout, i ≠ .construct port unit timeout) →
    (∀ code value, i = .exchange code value → ∃ c : Command, c.row.code = code) →
    ∃ t, exec i s = .next t ∧ t.phase = .idle ∧ (i ≠ .teardown → t.isOpen = true)

/-- Every step keeps the block sane (`State.Sane` in Sys2Proof/Safety.lean names the rules): idle, a
legal unit when constructed, faults reported with their own information, the trace paired and
addressed to the unit, the transport closed at most once. -/
def Obligations.EveryStepKeepsTheBlockSane : Prop :=
  ∀ s t : State, s.Sane → step s = .next t → t.Sane

/-- The block after reset is sane. -/
def Obligations.TheResetBlockIsSane : Prop := State.reset.Sane

/-- 10_state.md R24: the reset values that the spec gives. -/
def Obligations.ResetLeavesTheStatedValues : Prop :=
  State.reset.isOpen = false ∧ State.reset.fault = .noFault ∧ State.reset.phase = .idle ∧
  State.reset.trace = [] ∧ State.reset.constructed = false
end

