-- ==== Sys2Proof/Laws/Codec.lean ====
section
/-! SUPPORT. What the pure codec functions can do. -/

namespace Sys2Proof

namespace Codec

/-- A bit-step with the parameter at its value for this hardware, in the words of 40_crc.md R71. -/
theorem crcBitStep_eq (crc b : Byte) (i : BitPos) :
    crcBitStep crc b i =
      if (crc ^^^ b).getLsbD i.val then ((crc ^^^ 0x18) >>> 1) ||| 0x80 else crc >>> 1 := rfl

theorem crcByte_eq_foldl (crc b : Byte) :
    crcByte crc b = bitPositions.foldl (fun c i => crcBitStep c b i) crc := rfl

theorem checksum_eq_foldl (bytes : List Byte) : checksum bytes = bytes.foldl crcByte crcInit := rfl

@[simp] theorem checksum_nil : checksum [] = 0x00 := rfl

@[simp] theorem checksum_append_singleton (bytes : List Byte) (b : Byte) :
    checksum (bytes ++ [b]) = crcByte (checksum bytes) b := by
  simp [checksum_eq_foldl]

theorem frameBody_length (unit command : Byte) (value : Option Byte) :
    (frameBody unit command value).length = 2 + value.toList.length := by
  simp [frameBody]; omega

theorem buildFrame_length (unit command : Byte) (value : Option Byte) :
    (buildFrame unit command value).length = 4 + value.toList.length := by
  simp [buildFrame, frameBody]; omega

theorem buildFrame_none (unit command : Byte) :
    buildFrame unit command none = [0xE6, unit, command, checksum [unit, command]] := rfl

theorem buildFrame_some (unit command w : Byte) :
    buildFrame unit command (some w) =
      [0xE6, unit, command, w, checksum [unit, command, w]] := rfl

theorem buildFrame_length_le (unit command : Byte) (value : Option Byte) :
    (buildFrame unit command value).length ≤ 5 := by
  cases value <;> simp [buildFrame_none, buildFrame_some]

end Codec

theorem Command.asCommand_toInstr (c : Command) (v : Int) :
    ∃ v', (c.toInstr v).asCommand = some (c, v') ∧ (∀ lo hi, c.row.source = .operand lo hi → v' = v) := by
  cases c <;> simp [Command.toInstr, Instr.asCommand, Command.row]

theorem Command.ofCode_code (c : Command) : Command.ofCode c.row.code = some c := by
  cases c <;> decide

theorem Command.code_of_ofCode {code : Byte} {c : Command} (h : Command.ofCode code = some c) :
    c.row.code = code := by
  simpa using List.find?_some h

/-- An operand that a row accepts fits the VALUE byte. -/
theorem Command.toNat_valueByte {c : Command} {lo hi v : Int} (hs : c.row.source = .operand lo hi)
    (h0 : lo ≤ v) (h1 : v < hi) : ((BitVec.ofInt 8 v).toNat : Int) = v := by
  rw [BitVec.toNat_ofInt]
  revert hs
  cases c <;> simp [Command.row] <;> omega

/-- The VALUE byte of a legal operand gives the operation back. -/
theorem Command.withValue_valueByte {c : Command} {v : Int} (h : c.row.source.accepts v = true) :
    c.withValue (c.row.source.valueByte v) = .ok (c.toInstr v) := by
  unfold Command.withValue
  cases hs : c.row.source with
  | operand lo hi =>
    rw [hs] at h
    have hv := h
    simp only [ValueSource.accepts, Bool.and_eq_true, decide_eq_true_eq] at hv
    simp only [ValueSource.valueByte, Command.toNat_valueByte hs hv.1 hv.2, h, if_true]
  | fixed w => revert hs; cases c <;> simp [Command.row, Command.toInstr, ValueSource.valueByte]
  | absent => revert hs; cases c <;> simp [Command.row, Command.toInstr, ValueSource.valueByte]

/-- A VALUE that gives an operation is the VALUE byte of a legal operand. -/
theorem Command.withValue_ok {c : Command} {value : Option Byte} {i : Instr}
    (h : c.withValue value = .ok i) :
    ∃ v, c.row.source.accepts v = true ∧ c.row.source.valueByte v = value ∧ i = c.toInstr v := by
  unfold Command.withValue at h
  split at h
  · rename_i hs
    cases h
    exact ⟨0, by simp [hs, ValueSource.accepts], by simp [hs, ValueSource.valueByte], rfl⟩
  · cases h
  · cases h
  · rename_i hs
    split at h
    · rename_i hw
      cases h
      exact ⟨0, by simp [hs, ValueSource.accepts], by simp [hs, hw, ValueSource.valueByte], rfl⟩
    · cases h
  · cases h
  · rename_i w hs
    split at h
    · rename_i hw
      cases h
      exact ⟨_, by rw [hs]; exact hw, by simp [hs, ValueSource.valueByte], rfl⟩
    · cases h

/-- The unassigned codes are those of no row. -/
theorem Command.ofCode_eq_none_iff {code : Byte} :
    Command.ofCode code = none ↔ ∀ c : Command, c.row.code ≠ code := by
  constructor
  · rintro h c rfl
    rw [Command.ofCode_code] at h
    cases h
  · intro h
    cases hc : Command.ofCode code with
    | none => rfl
    | some c => exact absurd (Command.code_of_ofCode hc) (h c)

end Sys2Proof
end

