-- ==== Sys2Proof/Laws/State.lean ====
section
/-! SUPPORT. One lemma per field of State per named update (Machine/Ops.lean), true by rfl. -/

namespace Sys2Proof.Machine

variable (s : State)

/-! ### State.storeFrame -/

@[simp] theorem State.storeFrame_unit (frame : List Byte) :
    (s.storeFrame frame).unit = s.unit := rfl
@[simp] theorem State.storeFrame_portId (frame : List Byte) :
    (s.storeFrame frame).portId = s.portId := rfl
@[simp] theorem State.storeFrame_timeout (frame : List Byte) :
    (s.storeFrame frame).timeout = s.timeout := rfl
@[simp] theorem State.storeFrame_isOpen (frame : List Byte) :
    (s.storeFrame frame).isOpen = s.isOpen := rfl
@[simp] theorem State.storeFrame_constructed (frame : List Byte) :
    (s.storeFrame frame).constructed = s.constructed := rfl
@[simp] theorem State.storeFrame_crc (frame : List Byte) : (s.storeFrame frame).crc = s.crc := rfl
@[simp] theorem State.storeFrame_biti (frame : List Byte) :
    (s.storeFrame frame).biti = s.biti := rfl
@[simp] theorem State.storeFrame_byteIndex (frame : List Byte) :
    (s.storeFrame frame).byteIndex = s.byteIndex := rfl
@[simp] theorem State.storeFrame_cmd (frame : List Byte) : (s.storeFrame frame).cmd = s.cmd := rfl
@[simp] theorem State.storeFrame_valp (frame : List Byte) :
    (s.storeFrame frame).valp = s.valp := rfl
@[simp] theorem State.storeFrame_val (frame : List Byte) : (s.storeFrame frame).val = s.val := rfl
@[simp] theorem State.storeFrame_txBuf (frame : List Byte) :
    (s.storeFrame frame).txBuf = Buffer5.holding frame (Config.freeByte s.freeCount) := rfl
@[simp] theorem State.storeFrame_txLen (frame : List Byte) :
    (s.storeFrame frame).txLen = count5 frame.length := rfl
@[simp] theorem State.storeFrame_rxBuf (frame : List Byte) :
    (s.storeFrame frame).rxBuf = s.rxBuf := rfl
@[simp] theorem State.storeFrame_rxLen (frame : List Byte) :
    (s.storeFrame frame).rxLen = s.rxLen := rfl
@[simp] theorem State.storeFrame_sw (frame : List Byte) : (s.storeFrame frame).sw = s.sw := rfl
@[simp] theorem State.storeFrame_resKind (frame : List Byte) :
    (s.storeFrame frame).resKind = s.resKind := rfl
@[simp] theorem State.storeFrame_ack (frame : List Byte) : (s.storeFrame frame).ack = s.ack := rfl
@[simp] theorem State.storeFrame_fault (frame : List Byte) :
    (s.storeFrame frame).fault = s.fault := rfl
@[simp] theorem State.storeFrame_finfo (frame : List Byte) :
    (s.storeFrame frame).finfo = s.finfo := rfl
@[simp] theorem State.storeFrame_phase (frame : List Byte) :
    (s.storeFrame frame).phase = s.phase := rfl
@[simp] theorem State.storeFrame_trace (frame : List Byte) :
    (s.storeFrame frame).trace = s.trace := rfl
@[simp] theorem State.storeFrame_requests (frame : List Byte) :
    (s.storeFrame frame).requests = s.requests := rfl
@[simp] theorem State.storeFrame_draws (frame : List Byte) :
    (s.storeFrame frame).draws = s.draws := rfl
@[simp] theorem State.storeFrame_calls (frame : List Byte) :
    (s.storeFrame frame).calls = s.calls := rfl
@[simp] theorem State.storeFrame_freeCount (frame : List Byte) :
    (s.storeFrame frame).freeCount = s.freeCount + 1 := rfl

/-! ### State.storeReply -/

@[simp] theorem State.storeReply_unit (reply : List Byte) :
    (s.storeReply reply).unit = s.unit := rfl
@[simp] theorem State.storeReply_portId (reply : List Byte) :
    (s.storeReply reply).portId = s.portId := rfl
@[simp] theorem State.storeReply_timeout (reply : List Byte) :
    (s.storeReply reply).timeout = s.timeout := rfl
@[simp] theorem State.storeReply_isOpen (reply : List Byte) :
    (s.storeReply reply).isOpen = s.isOpen := rfl
@[simp] theorem State.storeReply_constructed (reply : List Byte) :
    (s.storeReply reply).constructed = s.constructed := rfl
@[simp] theorem State.storeReply_crc (reply : List Byte) : (s.storeReply reply).crc = s.crc := rfl
@[simp] theorem State.storeReply_biti (reply : List Byte) :
    (s.storeReply reply).biti = s.biti := rfl
@[simp] theorem State.storeReply_byteIndex (reply : List Byte) :
    (s.storeReply reply).byteIndex = s.byteIndex := rfl
@[simp] theorem State.storeReply_cmd (reply : List Byte) : (s.storeReply reply).cmd = s.cmd := rfl
@[simp] theorem State.storeReply_valp (reply : List Byte) :
    (s.storeReply reply).valp = s.valp := rfl
@[simp] theorem State.storeReply_val (reply : List Byte) : (s.storeReply reply).val = s.val := rfl
@[simp] theorem State.storeReply_txBuf (reply : List Byte) :
    (s.storeReply reply).txBuf = s.txBuf := rfl
@[simp] theorem State.storeReply_txLen (reply : List Byte) :
    (s.storeReply reply).txLen = s.txLen := rfl
@[simp] theorem State.storeReply_rxBuf (reply : List Byte) :
    (s.storeReply reply).rxBuf = Buffer5.holding reply (Config.freeByte s.freeCount) := rfl
@[simp] theorem State.storeReply_rxLen (reply : List Byte) :
    (s.storeReply reply).rxLen = count5 reply.length := rfl
@[simp] theorem State.storeReply_sw (reply : List Byte) : (s.storeReply reply).sw = s.sw := rfl
@[simp] theorem State.storeReply_resKind (reply : List Byte) :
    (s.storeReply reply).resKind = s.resKind := rfl
@[simp] theorem State.storeReply_ack (reply : List Byte) : (s.storeReply reply).ack = s.ack := rfl
@[simp] theorem State.storeReply_fault (reply : List Byte) :
    (s.storeReply reply).fault = s.fault := rfl
@[simp] theorem State.storeReply_finfo (reply : List Byte) :
    (s.storeReply reply).finfo = s.finfo := rfl
@[simp] theorem State.storeReply_phase (reply : List Byte) :
    (s.storeReply reply).phase = s.phase := rfl
@[simp] theorem State.storeReply_trace (reply : List Byte) :
    (s.storeReply reply).trace = s.trace := rfl
@[simp] theorem State.storeReply_requests (reply : List Byte) :
    (s.storeReply reply).requests = s.requests := rfl
@[simp] theorem State.storeReply_draws (reply : List Byte) :
    (s.storeReply reply).draws = s.draws := rfl
@[simp] theorem State.storeReply_calls (reply : List Byte) :
    (s.storeReply reply).calls = s.calls := rfl
@[simp] theorem State.storeReply_freeCount (reply : List Byte) :
    (s.storeReply reply).freeCount = s.freeCount + 1 := rfl

/-! ### State.loseReply -/

@[simp] theorem State.loseReply_unit : (s.loseReply).unit = s.unit := rfl
@[simp] theorem State.loseReply_portId : (s.loseReply).portId = s.portId := rfl
@[simp] theorem State.loseReply_timeout : (s.loseReply).timeout = s.timeout := rfl
@[simp] theorem State.loseReply_isOpen : (s.loseReply).isOpen = s.isOpen := rfl
@[simp] theorem State.loseReply_constructed : (s.loseReply).constructed = s.constructed := rfl
@[simp] theorem State.loseReply_crc : (s.loseReply).crc = s.crc := rfl
@[simp] theorem State.loseReply_biti : (s.loseReply).biti = s.biti := rfl
@[simp] theorem State.loseReply_byteIndex : (s.loseReply).byteIndex = s.byteIndex := rfl
@[simp] theorem State.loseReply_cmd : (s.loseReply).cmd = s.cmd := rfl
@[simp] theorem State.loseReply_valp : (s.loseReply).valp = s.valp := rfl
@[simp] theorem State.loseReply_val : (s.loseReply).val = s.val := rfl
@[simp] theorem State.loseReply_txBuf : (s.loseReply).txBuf = s.txBuf := rfl
@[simp] theorem State.loseReply_txLen : (s.loseReply).txLen = s.txLen := rfl
@[simp] theorem State.loseReply_rxBuf :
    (s.loseReply).rxBuf = Buffer5.holding [] (Config.freeByte s.freeCount) := rfl
@[simp] theorem State.loseReply_rxLen : (s.loseReply).rxLen = Config.freeRxLen s.freeCount := rfl
@[simp] theorem State.loseReply_sw : (s.loseReply).sw = s.sw := rfl
@[simp] theorem State.loseReply_resKind : (s.loseReply).resKind = s.resKind := rfl
@[simp] theorem State.loseReply_ack : (s.loseReply).ack = s.ack := rfl
@[simp] theorem State.loseReply_fault : (s.loseReply).fault = s.fault := rfl
@[simp] theorem State.loseReply_finfo : (s.loseReply).finfo = s.finfo := rfl
@[simp] theorem State.loseReply_phase : (s.loseReply).phase = s.phase := rfl
@[simp] theorem State.loseReply_trace : (s.loseReply).trace = s.trace := rfl
@[simp] theorem State.loseReply_requests : (s.loseReply).requests = s.requests := rfl
@[simp] theorem State.loseReply_draws : (s.loseReply).draws = s.draws := rfl
@[simp] theorem State.loseReply_calls : (s.loseReply).calls = s.calls := rfl
@[simp] theorem State.loseReply_freeCount : (s.loseReply).freeCount = s.freeCount + 1 := rfl

/-! ### State.loseFrame -/

@[simp] theorem State.loseFrame_unit : (s.loseFrame).unit = s.unit := rfl
@[simp] theorem State.loseFrame_portId : (s.loseFrame).portId = s.portId := rfl
@[simp] theorem State.loseFrame_timeout : (s.loseFrame).timeout = s.timeout := rfl
@[simp] theorem State.loseFrame_isOpen : (s.loseFrame).isOpen = s.isOpen := rfl
@[simp] theorem State.loseFrame_constructed : (s.loseFrame).constructed = s.constructed := rfl
@[simp] theorem State.loseFrame_crc : (s.loseFrame).crc = s.crc := rfl
@[simp] theorem State.loseFrame_biti : (s.loseFrame).biti = s.biti := rfl
@[simp] theorem State.loseFrame_byteIndex : (s.loseFrame).byteIndex = s.byteIndex := rfl
@[simp] theorem State.loseFrame_cmd : (s.loseFrame).cmd = s.cmd := rfl
@[simp] theorem State.loseFrame_valp : (s.loseFrame).valp = s.valp := rfl
@[simp] theorem State.loseFrame_val : (s.loseFrame).val = s.val := rfl
@[simp] theorem State.loseFrame_txBuf :
    (s.loseFrame).txBuf = Buffer5.holding [] (Config.freeByte s.freeCount) := rfl
@[simp] theorem State.loseFrame_txLen : (s.loseFrame).txLen = Config.freeTxLen s.freeCount := rfl
@[simp] theorem State.loseFrame_rxBuf : (s.loseFrame).rxBuf = s.rxBuf := rfl
@[simp] theorem State.loseFrame_rxLen : (s.loseFrame).rxLen = s.rxLen := rfl
@[simp] theorem State.loseFrame_sw : (s.loseFrame).sw = s.sw := rfl
@[simp] theorem State.loseFrame_resKind : (s.loseFrame).resKind = s.resKind := rfl
@[simp] theorem State.loseFrame_ack : (s.loseFrame).ack = s.ack := rfl
@[simp] theorem State.loseFrame_fault : (s.loseFrame).fault = s.fault := rfl
@[simp] theorem State.loseFrame_finfo : (s.loseFrame).finfo = s.finfo := rfl
@[simp] theorem State.loseFrame_phase : (s.loseFrame).phase = s.phase := rfl
@[simp] theorem State.loseFrame_trace : (s.loseFrame).trace = s.trace := rfl
@[simp] theorem State.loseFrame_requests : (s.loseFrame).requests = s.requests := rfl
@[simp] theorem State.loseFrame_draws : (s.loseFrame).draws = s.draws := rfl
@[simp] theorem State.loseFrame_calls : (s.loseFrame).calls = s.calls := rfl
@[simp] theorem State.loseFrame_freeCount : (s.loseFrame).freeCount = s.freeCount + 1 := rfl

/-! ### State.loseResults -/

@[simp] theorem State.loseResults_unit : (s.loseResults).unit = s.unit := rfl
@[simp] theorem State.loseResults_portId : (s.loseResults).portId = s.portId := rfl
@[simp] theorem State.loseResults_timeout : (s.loseResults).timeout = s.timeout := rfl
@[simp] theorem State.loseResults_isOpen : (s.loseResults).isOpen = s.isOpen := rfl
@[simp] theorem State.loseResults_constructed : (s.loseResults).constructed = s.constructed := rfl
@[simp] theorem State.loseResults_crc : (s.loseResults).crc = s.crc := rfl
@[simp] theorem State.loseResults_biti : (s.loseResults).biti = s.biti := rfl
@[simp] theorem State.loseResults_byteIndex : (s.loseResults).byteIndex = s.byteIndex := rfl
@[simp] theorem State.loseResults_cmd : (s.loseResults).cmd = s.cmd := rfl
@[simp] theorem State.loseResults_valp : (s.loseResults).valp = s.valp := rfl
@[simp] theorem State.loseResults_val : (s.loseResults).val = s.val := rfl
@[simp] theorem State.loseResults_txBuf : (s.loseResults).txBuf = s.txBuf := rfl
@[simp] theorem State.loseResults_txLen : (s.loseResults).txLen = s.txLen := rfl
@[simp] theorem State.loseResults_rxBuf : (s.loseResults).rxBuf = s.rxBuf := rfl
@[simp] theorem State.loseResults_rxLen : (s.loseResults).rxLen = s.rxLen := rfl
@[simp] theorem State.loseResults_sw :
    (s.loseResults).sw = ⟨Config.freeFlag s.freeCount 0, Config.freeFlag s.freeCount 1, Config.freeFlag s.freeCount 2, Config.freeFlag s.freeCount 3, Config.freeTurn s.freeCount, Config.freeSpeed s.freeCount⟩ := rfl
@[simp] theorem State.loseResults_resKind : (s.loseResults).resKind = s.resKind := rfl
@[simp] theorem State.loseResults_ack : (s.loseResults).ack = Config.freeFlag s.freeCount 4 := rfl
@[simp] theorem State.loseResults_fault : (s.loseResults).fault = s.fault := rfl
@[simp] theorem State.loseResults_finfo : (s.loseResults).finfo = s.finfo := rfl
@[simp] theorem State.loseResults_phase : (s.loseResults).phase = s.phase := rfl
@[simp] theorem State.loseResults_trace : (s.loseResults).trace = s.trace := rfl
@[simp] theorem State.loseResults_requests : (s.loseResults).requests = s.requests := rfl
@[simp] theorem State.loseResults_draws : (s.loseResults).draws = s.draws := rfl
@[simp] theorem State.loseResults_calls : (s.loseResults).calls = s.calls := rfl
@[simp] theorem State.loseResults_freeCount : (s.loseResults).freeCount = s.freeCount + 1 := rfl

/-! ### State.atPhase -/

@[simp] theorem State.atPhase_unit (p : Phase) : (s.atPhase p).unit = s.unit := rfl
@[simp] theorem State.atPhase_portId (p : Phase) : (s.atPhase p).portId = s.portId := rfl
@[simp] theorem State.atPhase_timeout (p : Phase) : (s.atPhase p).timeout = s.timeout := rfl
@[simp] theorem State.atPhase_isOpen (p : Phase) : (s.atPhase p).isOpen = s.isOpen := rfl
@[simp] theorem State.atPhase_constructed (p : Phase) :
    (s.atPhase p).constructed = s.constructed := rfl
@[simp] theorem State.atPhase_crc (p : Phase) : (s.atPhase p).crc = s.crc := rfl
@[simp] theorem State.atPhase_biti (p : Phase) : (s.atPhase p).biti = s.biti := rfl
@[simp] theorem State.atPhase_byteIndex (p : Phase) : (s.atPhase p).byteIndex = s.byteIndex := rfl
@[simp] theorem State.atPhase_cmd (p : Phase) : (s.atPhase p).cmd = s.cmd := rfl
@[simp] theorem State.atPhase_valp (p : Phase) : (s.atPhase p).valp = s.valp := rfl
@[simp] theorem State.atPhase_val (p : Phase) : (s.atPhase p).val = s.val := rfl
@[simp] theorem State.atPhase_txBuf (p : Phase) : (s.atPhase p).txBuf = s.txBuf := rfl
@[simp] theorem State.atPhase_txLen (p : Phase) : (s.atPhase p).txLen = s.txLen := rfl
@[simp] theorem State.atPhase_rxBuf (p : Phase) : (s.atPhase p).rxBuf = s.rxBuf := rfl
@[simp] theorem State.atPhase_rxLen (p : Phase) : (s.atPhase p).rxLen = s.rxLen := rfl
@[simp] theorem State.atPhase_sw (p : Phase) : (s.atPhase p).sw = s.sw := rfl
@[simp] theorem State.atPhase_resKind (p : Phase) : (s.atPhase p).resKind = s.resKind := rfl
@[simp] theorem State.atPhase_ack (p : Phase) : (s.atPhase p).ack = s.ack := rfl
@[simp] theorem State.atPhase_fault (p : Phase) : (s.atPhase p).fault = s.fault := rfl
@[simp] theorem State.atPhase_finfo (p : Phase) : (s.atPhase p).finfo = s.finfo := rfl
@[simp] theorem State.atPhase_phase (p : Phase) : (s.atPhase p).phase = p := rfl
@[simp] theorem State.atPhase_trace (p : Phase) : (s.atPhase p).trace = s.trace := rfl
@[simp] theorem State.atPhase_requests (p : Phase) : (s.atPhase p).requests = s.requests := rfl
@[simp] theorem State.atPhase_draws (p : Phase) : (s.atPhase p).draws = s.draws := rfl
@[simp] theorem State.atPhase_calls (p : Phase) : (s.atPhase p).calls = s.calls := rfl
@[simp] theorem State.atPhase_freeCount (p : Phase) : (s.atPhase p).freeCount = s.freeCount := rfl

/-! ### State.finish -/

@[simp] theorem State.finish_unit (k : ResKind) : (s.finish k).unit = s.unit := rfl
@[simp] theorem State.finish_portId (k : ResKind) : (s.finish k).portId = s.portId := rfl
@[simp] theorem State.finish_timeout (k : ResKind) : (s.finish k).timeout = s.timeout := rfl
@[simp] theorem State.finish_isOpen (k : ResKind) : (s.finish k).isOpen = s.isOpen := rfl
@[simp] theorem State.finish_constructed (k : ResKind) :
    (s.finish k).constructed = s.constructed := rfl
@[simp] theorem State.finish_crc (k : ResKind) : (s.finish k).crc = s.crc := rfl
@[simp] theorem State.finish_biti (k : ResKind) : (s.finish k).biti = s.biti := rfl
@[simp] theorem State.finish_byteIndex (k : ResKind) : (s.finish k).byteIndex = s.byteIndex := rfl
@[simp] theorem State.finish_cmd (k : ResKind) : (s.finish k).cmd = s.cmd := rfl
@[simp] theorem State.finish_valp (k : ResKind) : (s.finish k).valp = s.valp := rfl
@[simp] theorem State.finish_val (k : ResKind) : (s.finish k).val = s.val := rfl
@[simp] theorem State.finish_txBuf (k : ResKind) : (s.finish k).txBuf = s.txBuf := rfl
@[simp] theorem State.finish_txLen (k : ResKind) : (s.finish k).txLen = s.txLen := rfl
@[simp] theorem State.finish_rxBuf (k : ResKind) : (s.finish k).rxBuf = s.rxBuf := rfl
@[simp] theorem State.finish_rxLen (k : ResKind) : (s.finish k).rxLen = s.rxLen := rfl
@[simp] theorem State.finish_sw (k : ResKind) : (s.finish k).sw = s.sw := rfl
@[simp] theorem State.finish_resKind (k : ResKind) : (s.finish k).resKind = k := rfl
@[simp] theorem State.finish_ack (k : ResKind) : (s.finish k).ack = s.ack := rfl
@[simp] theorem State.finish_fault (k : ResKind) : (s.finish k).fault = s.fault := rfl
@[simp] theorem State.finish_finfo (k : ResKind) : (s.finish k).finfo = s.finfo := rfl
@[simp] theorem State.finish_phase (k : ResKind) : (s.finish k).phase = .idle := rfl
@[simp] theorem State.finish_trace (k : ResKind) : (s.finish k).trace = s.trace := rfl
@[simp] theorem State.finish_requests (k : ResKind) : (s.finish k).requests = s.requests := rfl
@[simp] theorem State.finish_draws (k : ResKind) : (s.finish k).draws = s.draws := rfl
@[simp] theorem State.finish_calls (k : ResKind) : (s.finish k).calls = s.calls := rfl
@[simp] theorem State.finish_freeCount (k : ResKind) : (s.finish k).freeCount = s.freeCount := rfl

/-! ### State.raise -/

@[simp] theorem State.raise_unit (info : FaultInfo) : (s.raise info).unit = s.unit := rfl
@[simp] theorem State.raise_portId (info : FaultInfo) : (s.raise info).portId = s.portId := rfl
@[simp] theorem State.raise_timeout (info : FaultInfo) : (s.raise info).timeout = s.timeout := rfl
@[simp] theorem State.raise_isOpen (info : FaultInfo) : (s.raise info).isOpen = s.isOpen := rfl
@[simp] theorem State.raise_constructed (info : FaultInfo) :
    (s.raise info).constructed = s.constructed := rfl
@[simp] theorem State.raise_crc (info : FaultInfo) : (s.raise info).crc = s.crc := rfl
@[simp] theorem State.raise_biti (info : FaultInfo) : (s.raise info).biti = s.biti := rfl
@[simp] theorem State.raise_byteIndex (info : FaultInfo) :
    (s.raise info).byteIndex = s.byteIndex := rfl
@[simp] theorem State.raise_cmd (info : FaultInfo) : (s.raise info).cmd = s.cmd := rfl
@[simp] theorem State.raise_valp (info : FaultInfo) : (s.raise info).valp = s.valp := rfl
@[simp] theorem State.raise_val (info : FaultInfo) : (s.raise info).val = s.val := rfl
@[simp] theorem State.raise_txBuf (info : FaultInfo) : (s.raise info).txBuf = s.txBuf := rfl
@[simp] theorem State.raise_txLen (info : FaultInfo) : (s.raise info).txLen = s.txLen := rfl
@[simp] theorem State.raise_rxBuf (info : FaultInfo) : (s.raise info).rxBuf = s.rxBuf := rfl
@[simp] theorem State.raise_rxLen (info : FaultInfo) : (s.raise info).rxLen = s.rxLen := rfl
@[simp] theorem State.raise_sw (info : FaultInfo) : (s.raise info).sw = s.sw := rfl
@[simp] theorem State.raise_resKind (info : FaultInfo) : (s.raise info).resKind = .fault := rfl
@[simp] theorem State.raise_ack (info : FaultInfo) : (s.raise info).ack = s.ack := rfl
@[simp] theorem State.raise_fault (info : FaultInfo) : (s.raise info).fault = info.faultCode := rfl
@[simp] theorem State.raise_finfo (info : FaultInfo) : (s.raise info).finfo = info := rfl
@[simp] theorem State.raise_phase (info : FaultInfo) : (s.raise info).phase = .idle := rfl
@[simp] theorem State.raise_trace (info : FaultInfo) : (s.raise info).trace = s.trace := rfl
@[simp] theorem State.raise_requests (info : FaultInfo) :
    (s.raise info).requests = s.requests := rfl
@[simp] theorem State.raise_draws (info : FaultInfo) : (s.raise info).draws = s.draws := rfl
@[simp] theorem State.raise_calls (info : FaultInfo) : (s.raise info).calls = s.calls := rfl
@[simp] theorem State.raise_freeCount (info : FaultInfo) :
    (s.raise info).freeCount = s.freeCount := rfl

/-! ### State.afterCall -/

@[simp] theorem State.afterCall_unit (c : PortCall) : (s.afterCall c).unit = s.unit := rfl
@[simp] theorem State.afterCall_portId (c : PortCall) : (s.afterCall c).portId = s.portId := rfl
@[simp] theorem State.afterCall_timeout (c : PortCall) : (s.afterCall c).timeout = s.timeout := rfl
@[simp] theorem State.afterCall_isOpen (c : PortCall) : (s.afterCall c).isOpen = s.isOpen := rfl
@[simp] theorem State.afterCall_constructed (c : PortCall) :
    (s.afterCall c).constructed = s.constructed := rfl
@[simp] theorem State.afterCall_crc (c : PortCall) : (s.afterCall c).crc = s.crc := rfl
@[simp] theorem State.afterCall_biti (c : PortCall) : (s.afterCall c).biti = s.biti := rfl
@[simp] theorem State.afterCall_byteIndex (c : PortCall) :
    (s.afterCall c).byteIndex = s.byteIndex := rfl
@[simp] theorem State.afterCall_cmd (c : PortCall) : (s.afterCall c).cmd = s.cmd := rfl
@[simp] theorem State.afterCall_valp (c : PortCall) : (s.afterCall c).valp = s.valp := rfl
@[simp] theorem State.afterCall_val (c : PortCall) : (s.afterCall c).val = s.val := rfl
@[simp] theorem State.afterCall_txBuf (c : PortCall) : (s.afterCall c).txBuf = s.txBuf := rfl
@[simp] theorem State.afterCall_txLen (c : PortCall) : (s.afterCall c).txLen = s.txLen := rfl
@[simp] theorem State.afterCall_rxBuf (c : PortCall) : (s.afterCall c).rxBuf = s.rxBuf := rfl
@[simp] theorem State.afterCall_rxLen (c : PortCall) : (s.afterCall c).rxLen = s.rxLen := rfl
@[simp] theorem State.afterCall_sw (c : PortCall) : (s.afterCall c).sw = s.sw := rfl
@[simp] theorem State.afterCall_resKind (c : PortCall) : (s.afterCall c).resKind = s.resKind := rfl
@[simp] theorem State.afterCall_ack (c : PortCall) : (s.afterCall c).ack = s.ack := rfl
@[simp] theorem State.afterCall_fault (c : PortCall) : (s.afterCall c).fault = s.fault := rfl
@[simp] theorem State.afterCall_finfo (c : PortCall) : (s.afterCall c).finfo = s.finfo := rfl
@[simp] theorem State.afterCall_phase (c : PortCall) : (s.afterCall c).phase = s.phase := rfl
@[simp] theorem State.afterCall_trace (c : PortCall) : (s.afterCall c).trace = s.trace := rfl
@[simp] theorem State.afterCall_requests (c : PortCall) :
    (s.afterCall c).requests = s.requests := rfl
@[simp] theorem State.afterCall_draws (c : PortCall) : (s.afterCall c).draws = s.draws.tail := rfl
@[simp] theorem State.afterCall_calls (c : PortCall) : (s.afterCall c).calls = s.calls ++ [c] := rfl
@[simp] theorem State.afterCall_freeCount (c : PortCall) :
    (s.afterCall c).freeCount = s.freeCount := rfl

/-! ### portClose -/

@[simp] theorem portClose_unit : (portClose s).unit = s.unit := rfl
@[simp] theorem portClose_portId : (portClose s).portId = s.portId := rfl
@[simp] theorem portClose_timeout : (portClose s).timeout = s.timeout := rfl
@[simp] theorem portClose_isOpen : (portClose s).isOpen = s.isOpen := rfl
@[simp] theorem portClose_constructed : (portClose s).constructed = s.constructed := rfl
@[simp] theorem portClose_crc : (portClose s).crc = s.crc := rfl
@[simp] theorem portClose_biti : (portClose s).biti = s.biti := rfl
@[simp] theorem portClose_byteIndex : (portClose s).byteIndex = s.byteIndex := rfl
@[simp] theorem portClose_cmd : (portClose s).cmd = s.cmd := rfl
@[simp] theorem portClose_valp : (portClose s).valp = s.valp := rfl
@[simp] theorem portClose_val : (portClose s).val = s.val := rfl
@[simp] theorem portClose_txBuf : (portClose s).txBuf = s.txBuf := rfl
@[simp] theorem portClose_txLen : (portClose s).txLen = s.txLen := rfl
@[simp] theorem portClose_rxBuf : (portClose s).rxBuf = s.rxBuf := rfl
@[simp] theorem portClose_rxLen : (portClose s).rxLen = s.rxLen := rfl
@[simp] theorem portClose_sw : (portClose s).sw = s.sw := rfl
@[simp] theorem portClose_resKind : (portClose s).resKind = s.resKind := rfl
@[simp] theorem portClose_ack : (portClose s).ack = s.ack := rfl
@[simp] theorem portClose_fault : (portClose s).fault = s.fault := rfl
@[simp] theorem portClose_finfo : (portClose s).finfo = s.finfo := rfl
@[simp] theorem portClose_phase : (portClose s).phase = s.phase := rfl
@[simp] theorem portClose_trace : (portClose s).trace = s.trace := rfl
@[simp] theorem portClose_requests : (portClose s).requests = s.requests := rfl
@[simp] theorem portClose_draws : (portClose s).draws = s.draws := rfl
@[simp] theorem portClose_calls : (portClose s).calls = s.calls ++ [.closePort] := rfl
@[simp] theorem portClose_freeCount : (portClose s).freeCount = s.freeCount := rfl

/-! ### crcClear -/

@[simp] theorem crcClear_unit : (crcClear s).unit = s.unit := rfl
@[simp] theorem crcClear_portId : (crcClear s).portId = s.portId := rfl
@[simp] theorem crcClear_timeout : (crcClear s).timeout = s.timeout := rfl
@[simp] theorem crcClear_isOpen : (crcClear s).isOpen = s.isOpen := rfl
@[simp] theorem crcClear_constructed : (crcClear s).constructed = s.constructed := rfl
@[simp] theorem crcClear_crc : (crcClear s).crc = Codec.crcInit := rfl
@[simp] theorem crcClear_biti : (crcClear s).biti = s.biti := rfl
@[simp] theorem crcClear_byteIndex : (crcClear s).byteIndex = s.byteIndex := rfl
@[simp] theorem crcClear_cmd : (crcClear s).cmd = s.cmd := rfl
@[simp] theorem crcClear_valp : (crcClear s).valp = s.valp := rfl
@[simp] theorem crcClear_val : (crcClear s).val = s.val := rfl
@[simp] theorem crcClear_txBuf : (crcClear s).txBuf = s.txBuf := rfl
@[simp] theorem crcClear_txLen : (crcClear s).txLen = s.txLen := rfl
@[simp] theorem crcClear_rxBuf : (crcClear s).rxBuf = s.rxBuf := rfl
@[simp] theorem crcClear_rxLen : (crcClear s).rxLen = s.rxLen := rfl
@[simp] theorem crcClear_sw : (crcClear s).sw = s.sw := rfl
@[simp] theorem crcClear_resKind : (crcClear s).resKind = s.resKind := rfl
@[simp] theorem crcClear_ack : (crcClear s).ack = s.ack := rfl
@[simp] theorem crcClear_fault : (crcClear s).fault = s.fault := rfl
@[simp] theorem crcClear_finfo : (crcClear s).finfo = s.finfo := rfl
@[simp] theorem crcClear_phase : (crcClear s).phase = s.phase := rfl
@[simp] theorem crcClear_trace : (crcClear s).trace = s.trace := rfl
@[simp] theorem crcClear_requests : (crcClear s).requests = s.requests := rfl
@[simp] theorem crcClear_draws : (crcClear s).draws = s.draws := rfl
@[simp] theorem crcClear_calls : (crcClear s).calls = s.calls := rfl
@[simp] theorem crcClear_freeCount : (crcClear s).freeCount = s.freeCount := rfl

/-! ### crcBit -/

@[simp] theorem crcBit_unit (b : Byte) (i : BitPos) : (crcBit b i s).unit = s.unit := rfl
@[simp] theorem crcBit_portId (b : Byte) (i : BitPos) : (crcBit b i s).portId = s.portId := rfl
@[simp] theorem crcBit_timeout (b : Byte) (i : BitPos) : (crcBit b i s).timeout = s.timeout := rfl
@[simp] theorem crcBit_isOpen (b : Byte) (i : BitPos) : (crcBit b i s).isOpen = s.isOpen := rfl
@[simp] theorem crcBit_constructed (b : Byte) (i : BitPos) :
    (crcBit b i s).constructed = s.constructed := rfl
@[simp] theorem crcBit_crc (b : Byte) (i : BitPos) :
    (crcBit b i s).crc = Codec.crcBitStep s.crc b i := rfl
@[simp] theorem crcBit_biti (b : Byte) (i : BitPos) : (crcBit b i s).biti = s.biti := rfl
@[simp] theorem crcBit_byteIndex (b : Byte) (i : BitPos) :
    (crcBit b i s).byteIndex = s.byteIndex := rfl
@[simp] theorem crcBit_cmd (b : Byte) (i : BitPos) : (crcBit b i s).cmd = s.cmd := rfl
@[simp] theorem crcBit_valp (b : Byte) (i : BitPos) : (crcBit b i s).valp = s.valp := rfl
@[simp] theorem crcBit_val (b : Byte) (i : BitPos) : (crcBit b i s).val = s.val := rfl
@[simp] theorem crcBit_txBuf (b : Byte) (i : BitPos) : (crcBit b i s).txBuf = s.txBuf := rfl
@[simp] theorem crcBit_txLen (b : Byte) (i : BitPos) : (crcBit b i s).txLen = s.txLen := rfl
@[simp] theorem crcBit_rxBuf (b : Byte) (i : BitPos) : (crcBit b i s).rxBuf = s.rxBuf := rfl
@[simp] theorem crcBit_rxLen (b : Byte) (i : BitPos) : (crcBit b i s).rxLen = s.rxLen := rfl
@[simp] theorem crcBit_sw (b : Byte) (i : BitPos) : (crcBit b i s).sw = s.sw := rfl
@[simp] theorem crcBit_resKind (b : Byte) (i : BitPos) : (crcBit b i s).resKind = s.resKind := rfl
@[simp] theorem crcBit_ack (b : Byte) (i : BitPos) : (crcBit b i s).ack = s.ack := rfl
@[simp] theorem crcBit_fault (b : Byte) (i : BitPos) : (crcBit b i s).fault = s.fault := rfl
@[simp] theorem crcBit_finfo (b : Byte) (i : BitPos) : (crcBit b i s).finfo = s.finfo := rfl
@[simp] theorem crcBit_phase (b : Byte) (i : BitPos) : (crcBit b i s).phase = s.phase := rfl
@[simp] theorem crcBit_trace (b : Byte) (i : BitPos) : (crcBit b i s).trace = s.trace := rfl
@[simp] theorem crcBit_requests (b : Byte) (i : BitPos) :
    (crcBit b i s).requests = s.requests := rfl
@[simp] theorem crcBit_draws (b : Byte) (i : BitPos) : (crcBit b i s).draws = s.draws := rfl
@[simp] theorem crcBit_calls (b : Byte) (i : BitPos) : (crcBit b i s).calls = s.calls := rfl
@[simp] theorem crcBit_freeCount (b : Byte) (i : BitPos) :
    (crcBit b i s).freeCount = s.freeCount := rfl

/-! ### ackTest -/

@[simp] theorem ackTest_unit : (ackTest s).unit = s.unit := rfl
@[simp] theorem ackTest_portId : (ackTest s).portId = s.portId := rfl
@[simp] theorem ackTest_timeout : (ackTest s).timeout = s.timeout := rfl
@[simp] theorem ackTest_isOpen : (ackTest s).isOpen = s.isOpen := rfl
@[simp] theorem ackTest_constructed : (ackTest s).constructed = s.constructed := rfl
@[simp] theorem ackTest_crc : (ackTest s).crc = s.crc := rfl
@[simp] theorem ackTest_biti : (ackTest s).biti = s.biti := rfl
@[simp] theorem ackTest_byteIndex : (ackTest s).byteIndex = s.byteIndex := rfl
@[simp] theorem ackTest_cmd : (ackTest s).cmd = s.cmd := rfl
@[simp] theorem ackTest_valp : (ackTest s).valp = s.valp := rfl
@[simp] theorem ackTest_val : (ackTest s).val = s.val := rfl
@[simp] theorem ackTest_txBuf : (ackTest s).txBuf = s.txBuf := rfl
@[simp] theorem ackTest_txLen : (ackTest s).txLen = s.txLen := rfl
@[simp] theorem ackTest_rxBuf : (ackTest s).rxBuf = s.rxBuf := rfl
@[simp] theorem ackTest_rxLen : (ackTest s).rxLen = s.rxLen := rfl
@[simp] theorem ackTest_sw : (ackTest s).sw = s.sw := rfl
@[simp] theorem ackTest_resKind : (ackTest s).resKind = s.resKind := rfl
@[simp] theorem ackTest_ack : (ackTest s).ack = ackBit s.rxLen := rfl
@[simp] theorem ackTest_fault : (ackTest s).fault = s.fault := rfl
@[simp] theorem ackTest_finfo : (ackTest s).finfo = s.finfo := rfl
@[simp] theorem ackTest_phase : (ackTest s).phase = s.phase := rfl
@[simp] theorem ackTest_trace : (ackTest s).trace = s.trace := rfl
@[simp] theorem ackTest_requests : (ackTest s).requests = s.requests := rfl
@[simp] theorem ackTest_draws : (ackTest s).draws = s.draws := rfl
@[simp] theorem ackTest_calls : (ackTest s).calls = s.calls := rfl
@[simp] theorem ackTest_freeCount : (ackTest s).freeCount = s.freeCount := rfl

/-! ### recordExchange -/

@[simp] theorem recordExchange_unit : (recordExchange s).unit = s.unit := rfl
@[simp] theorem recordExchange_portId : (recordExchange s).portId = s.portId := rfl
@[simp] theorem recordExchange_timeout : (recordExchange s).timeout = s.timeout := rfl
@[simp] theorem recordExchange_isOpen : (recordExchange s).isOpen = s.isOpen := rfl
@[simp] theorem recordExchange_constructed : (recordExchange s).constructed = s.constructed := rfl
@[simp] theorem recordExchange_crc : (recordExchange s).crc = s.crc := rfl
@[simp] theorem recordExchange_biti : (recordExchange s).biti = s.biti := rfl
@[simp] theorem recordExchange_byteIndex : (recordExchange s).byteIndex = s.byteIndex := rfl
@[simp] theorem recordExchange_cmd : (recordExchange s).cmd = s.cmd := rfl
@[simp] theorem recordExchange_valp : (recordExchange s).valp = s.valp := rfl
@[simp] theorem recordExchange_val : (recordExchange s).val = s.val := rfl
@[simp] theorem recordExchange_txBuf : (recordExchange s).txBuf = s.txBuf := rfl
@[simp] theorem recordExchange_txLen : (recordExchange s).txLen = s.txLen := rfl
@[simp] theorem recordExchange_rxBuf : (recordExchange s).rxBuf = s.rxBuf := rfl
@[simp] theorem recordExchange_rxLen : (recordExchange s).rxLen = s.rxLen := rfl
@[simp] theorem recordExchange_sw : (recordExchange s).sw = s.sw := rfl
@[simp] theorem recordExchange_resKind : (recordExchange s).resKind = s.resKind := rfl
@[simp] theorem recordExchange_ack : (recordExchange s).ack = s.ack := rfl
@[simp] theorem recordExchange_fault : (recordExchange s).fault = s.fault := rfl
@[simp] theorem recordExchange_finfo : (recordExchange s).finfo = s.finfo := rfl
@[simp] theorem recordExchange_phase : (recordExchange s).phase = s.phase := rfl
@[simp] theorem recordExchange_trace :
    (recordExchange s).trace = s.trace ++ [.send s.txFrame, .recv s.rxReply] := rfl
@[simp] theorem recordExchange_requests : (recordExchange s).requests = s.requests := rfl
@[simp] theorem recordExchange_draws : (recordExchange s).draws = s.draws := rfl
@[simp] theorem recordExchange_calls : (recordExchange s).calls = s.calls := rfl
@[simp] theorem recordExchange_freeCount : (recordExchange s).freeCount = s.freeCount := rfl

/-! ### State.latch -/

@[simp] theorem State.latch_unit (code : Byte) (value : Option Byte) :
    (s.latch code value).unit = s.unit := rfl
@[simp] theorem State.latch_portId (code : Byte) (value : Option Byte) :
    (s.latch code value).portId = s.portId := rfl
@[simp] theorem State.latch_timeout (code : Byte) (value : Option Byte) :
    (s.latch code value).timeout = s.timeout := rfl
@[simp] theorem State.latch_isOpen (code : Byte) (value : Option Byte) :
    (s.latch code value).isOpen = s.isOpen := rfl
@[simp] theorem State.latch_constructed (code : Byte) (value : Option Byte) :
    (s.latch code value).constructed = s.constructed := rfl
@[simp] theorem State.latch_crc (code : Byte) (value : Option Byte) :
    (s.latch code value).crc = s.crc := rfl
@[simp] theorem State.latch_biti (code : Byte) (value : Option Byte) :
    (s.latch code value).biti = s.biti := rfl
@[simp] theorem State.latch_byteIndex (code : Byte) (value : Option Byte) :
    (s.latch code value).byteIndex = s.byteIndex := rfl
@[simp] theorem State.latch_cmd (code : Byte) (value : Option Byte) :
    (s.latch code value).cmd = code := rfl
@[simp] theorem State.latch_valp (code : Byte) (value : Option Byte) :
    (s.latch code value).valp = value.isSome := rfl
@[simp] theorem State.latch_val (code : Byte) (value : Option Byte) :
    (s.latch code value).val = value.getD s.val := rfl
@[simp] theorem State.latch_txBuf (code : Byte) (value : Option Byte) :
    (s.latch code value).txBuf = s.txBuf := rfl
@[simp] theorem State.latch_txLen (code : Byte) (value : Option Byte) :
    (s.latch code value).txLen = s.txLen := rfl
@[simp] theorem State.latch_rxBuf (code : Byte) (value : Option Byte) :
    (s.latch code value).rxBuf = s.rxBuf := rfl
@[simp] theorem State.latch_rxLen (code : Byte) (value : Option Byte) :
    (s.latch code value).rxLen = s.rxLen := rfl
@[simp] theorem State.latch_sw (code : Byte) (value : Option Byte) :
    (s.latch code value).sw = s.sw := rfl
@[simp] theorem State.latch_resKind (code : Byte) (value : Option Byte) :
    (s.latch code value).resKind = s.resKind := rfl
@[simp] theorem State.latch_ack (code : Byte) (value : Option Byte) :
    (s.latch code value).ack = s.ack := rfl
@[simp] theorem State.latch_fault (code : Byte) (value : Option Byte) :
    (s.latch code value).fault = s.fault := rfl
@[simp] theorem State.latch_finfo (code : Byte) (value : Option Byte) :
    (s.latch code value).finfo = s.finfo := rfl
@[simp] theorem State.latch_phase (code : Byte) (value : Option Byte) :
    (s.latch code value).phase = s.phase := rfl
@[simp] theorem State.latch_trace (code : Byte) (value : Option Byte) :
    (s.latch code value).trace = s.trace := rfl
@[simp] theorem State.latch_requests (code : Byte) (value : Option Byte) :
    (s.latch code value).requests = s.requests := rfl
@[simp] theorem State.latch_draws (code : Byte) (value : Option Byte) :
    (s.latch code value).draws = s.draws := rfl
@[simp] theorem State.latch_calls (code : Byte) (value : Option Byte) :
    (s.latch code value).calls = s.calls := rfl
@[simp] theorem State.latch_freeCount (code : Byte) (value : Option Byte) :
    (s.latch code value).freeCount = s.freeCount := rfl

end Sys2Proof.Machine
end

