-- ==== Sys2Proof/Laws/Ops.lean ====
section
/-! SUPPORT. For each shared operation of Machine/Ops.lean, one lemma that says once everything it
can do. -/

namespace Sys2Proof

/-! ### The buffers -/

theorem Buffer5.holding_take (bytes : List Byte) (free : Fin 5 → Byte) (h : bytes.length ≤ 5) :
    (Buffer5.holding bytes free).toList.take bytes.length = bytes := by
  match bytes, h with
  | [], _ => rfl
  | [_], _ => rfl
  | [_, _], _ => rfl
  | [_, _, _], _ => rfl
  | [_, _, _, _], _ => rfl
  | [_, _, _, _, _], _ => rfl
  | _ :: _ :: _ :: _ :: _ :: _ :: _, h => simp at h; omega

namespace Machine

theorem count5_val {n : Nat} (h : n ≤ 5) : (count5 n).val = n := by simp [count5, h]

@[simp] theorem State.txFrame_storeFrame (s : State) (frame : List Byte) (h : frame.length ≤ 5) :
    (s.storeFrame frame).txFrame = frame := by
  simp [State.txFrame, count5_val h, Buffer5.holding_take frame _ h]

@[simp] theorem State.rxReply_storeReply (s : State) (reply : List Byte) (h : reply.length ≤ 5) :
    (s.storeReply reply).rxReply = reply := by
  simp [State.rxReply, count5_val h, Buffer5.holding_take reply _ h]

/-- `TXBUF`'s frame depends on `TXBUF` and `TXLEN` only. -/
theorem State.txFrame_congr {s t : State} (h : s.txBuf = t.txBuf) (h' : s.txLen = t.txLen) :
    s.txFrame = t.txFrame := by
  simp [State.txFrame, h, h']

/-- `RXBUF`'s reply depends on `RXBUF` and `RXLEN` only. -/
theorem State.rxReply_congr {s t : State} (h : s.rxBuf = t.rxBuf) (h' : s.rxLen = t.rxLen) :
    s.rxReply = t.rxReply := by
  simp [State.rxReply, h, h']

@[simp] theorem State.txFrame_atPhase (s : State) (p : Phase) : (s.atPhase p).txFrame = s.txFrame := rfl

@[simp] theorem State.rxReply_atPhase (s : State) (p : Phase) : (s.atPhase p).rxReply = s.rxReply := rfl

@[simp] theorem State.txFrame_storeReply_frame (s : State) (reply : List Byte) :
    (s.storeReply reply).txFrame = s.txFrame := rfl

@[simp] theorem State.txFrame_afterCalls (s : State) (cs : List PortCall) :
    (s.afterCalls cs).txFrame = s.txFrame := rfl

/-! ### The CRC unit -/

theorem crcNextBit_eq (b : Byte) (s : State) :
    crcNextBit b s = { s with crc := Codec.crcBitStep s.crc b s.biti, biti := s.biti + 1 } := rfl

theorem crcFoldByte_eq (b : Byte) (s : State) :
    crcFoldByte b s = { s with crc := Codec.crcByte s.crc b, biti := 0 } := by
  simp only [crcFoldByte, crcBits, crcNextBit_eq, Codec.crcByte_eq_foldl, Codec.bitPositions,
    List.foldl]
  rfl

theorem crcByteAlone_eq (b : Byte) (s : State) :
    crcByteAlone b s = { s with crc := Codec.crcByte s.crc b, biti := 0, byteIndex := 0 } := by
  rw [crcByteAlone, crcFoldByte_eq]

theorem crcFoldBytes_eq (bytes : List Byte) (s : State) (h : s.biti = 0) :
    crcFoldBytes bytes s =
      { s with crc := bytes.foldl Codec.crcByte s.crc, byteIndex := s.byteIndex + bytes.length } := by
  induction bytes generalizing s with
  | nil => rfl
  | cons b bytes ih =>
    rw [crcFoldBytes, crcFoldByte_eq, ih _ rfl]
    simp only [List.foldl_cons, List.length_cons, h]
    congr 1
    omega

theorem crcChecksum_eq (bytes : List Byte) (s : State) :
    crcChecksum bytes s =
      { s with crc := Codec.checksum bytes, biti := 0, byteIndex := bytes.length } := by
  rw [crcChecksum, crcFoldBytes_eq _ _ rfl]
  simp [crcClear, Codec.checksum_eq_foldl]

/-! ### The framer unit -/

theorem frameBuild_eq (unit command : Byte) (value : Option Byte) (s : State) :
    frameBuild unit command value s = s.built unit command value := by
  simp [frameBuild, crcChecksum_eq, State.storeFrame, State.built, Codec.buildFrame]

@[simp] theorem State.txFrame_built (s : State) (unit command : Byte) (value : Option Byte) :
    (s.built unit command value).txFrame = Codec.buildFrame unit command value := by
  have h := Codec.buildFrame_length_le unit command value
  simp only [State.txFrame, State.built, count5_val h, Buffer5.holding_take _ _ h]

theorem decodeStatus_short {reply : List Byte} (h : reply.length < 5) : decodeStatus reply = none := by
  match reply, h with
  | [], _ => rfl
  | [_], _ => rfl
  | [_, _], _ => rfl
  | [_, _, _], _ => rfl
  | [_, _, _, _], _ => rfl
  | _ :: _ :: _ :: _ :: _ :: _, h => simp at h; omega

/-- `DECODE_STATUS` either writes `SW` and nothing else, or takes `ProtocolError`. -/
theorem statusDecode_cases (reply : List Byte) (s : State) :
    (∃ sw, decodeStatus reply = some sw ∧ statusDecode reply s = .ok { s with sw := sw }) ∨
    (decodeStatus reply = none ∧ statusDecode reply s = .error (s.raise (.protocol .decode reply.length))) := by
  unfold statusDecode
  cases h : decodeStatus reply with
  | none => exact .inr ⟨rfl, rfl⟩
  | some sw => exact .inl ⟨sw, rfl, rfl⟩

/-! ### The transport -/

/-- A primitive without a result either succeeds, using up one answer, or takes
`TransportError`. -/
theorem portCall_cases (c : PortCall) (which : FailedPrimitive) (s : State) :
    ((s.answer c).failed = true ∧ portCall c which s = .error ((s.afterCall c).raise (.transport which))) ∨
    ((s.answer c).failed = false ∧ portCall c which s = .ok (s.afterCall c)) := by
  unfold portCall
  cases h : (s.answer c).failed <;> simp

/-- `PortOpen` either succeeds, using up one answer, or takes `TransportError` and leaves no value in
the working registers. -/
theorem portOpen_cases (s : State) :
    ((s.answer (.openPort s.portId s.timeout)).failed = true ∧
      portOpen s = .error ((s.afterCall (.openPort s.portId s.timeout)).loseWorking.raise
        (.transport .openPort))) ∨
    ((s.answer (.openPort s.portId s.timeout)).failed = false ∧
      portOpen s = .ok (s.afterCall (.openPort s.portId s.timeout))) := by
  unfold portOpen
  cases h : (s.answer (.openPort s.portId s.timeout)).failed <;> simp [h]

/-- `PortRead(5)` either leaves the reply, or loses it and takes `TransportError`. -/
theorem portRead_cases (s : State) :
    ((s.answer (.read 5)).failed = true ∧
      portRead s = .error ((s.afterCall (.read 5)).loseReply.raise (.transport .read))) ∨
    ((s.answer (.read 5)).failed = false ∧
      portRead s = .ok ((s.afterCall (.read 5)).storeReply ((s.answer (.read 5)).arrived.take 5))) := by
  unfold portRead Codec.replyLength readBytes
  cases h : (s.answer (.read 5)).failed <;> simp [h]

/-- The transport's answer depends on the draws and the history only. -/
theorem State.answer_congr {s t : State} (hd : s.draws = t.draws) (hc : s.calls = t.calls)
    (c : PortCall) : s.answer c = t.answer c := by
  simp [State.answer, hd, hc]

theorem State.upcoming_congr {s t : State} (hd : s.draws = t.draws) (hc : s.calls = t.calls)
    (cs : List PortCall) : s.upcoming cs = t.upcoming cs := by
  induction cs generalizing s t with
  | nil => rfl
  | cons c cs ih =>
    simp only [State.upcoming, State.answer_congr hd hc c]
    rw [ih (s := s.afterCall c) (t := t.afterCall c) (by simp [hd]) (by simp [hc])]

end Machine

end Sys2Proof
end

