-- ==== Sys2Proof/Laws/Exchange.lean ====
section
/-! SUPPORT. Once, everything an exchange can do. -/

namespace Sys2Proof.Machine

/-! ### The exchange -/

theorem State.afterCall_eq_afterCalls (s : State) (c : PortCall) : s.afterCall c = s.afterCalls [c] := by
  simp [State.afterCall, State.afterCalls]

theorem State.afterCalls_unit (s : State) (cs : List PortCall) : (s.afterCalls cs).unit = s.unit := rfl

theorem State.afterCalls_nil (s : State) : s.afterCalls [] = s := by simp [State.afterCalls]

theorem State.afterCalls_afterCalls (s : State) (cs ds : List PortCall) :
    (s.afterCalls cs).afterCalls ds = s.afterCalls (cs ++ ds) := by
  simp [State.afterCalls, List.drop_drop]

theorem State.afterCalls_atPhase (s : State) (cs : List PortCall) (p : Phase) :
    (s.atPhase p).afterCalls cs = (s.afterCalls cs).atPhase p := rfl

theorem State.atPhase_atPhase (s : State) (p q : Phase) : (s.atPhase p).atPhase q = s.atPhase q := rfl

theorem State.raise_atPhase (s : State) (p : Phase) (info : FaultInfo) :
    (s.atPhase p).raise info = s.raise info := rfl

theorem State.answer_atPhase (s : State) (p : Phase) (c : PortCall) :
    (s.atPhase p).answer c = s.answer c := State.answer_congr rfl rfl c

theorem State.built_phase_calls (s : State) (p : Phase) (cs : List PortCall) (unit code : Byte)
    (value : Option Byte) :
    ((s.afterCalls cs).atPhase p).built unit code value =
      ((s.built unit code value).afterCalls cs).atPhase p := rfl

theorem State.answer_built (s : State) (unit code : Byte) (value : Option Byte) (cs : List PortCall)
    (c : PortCall) :
    ((s.built unit code value).afterCalls cs).answer c = (s.afterCalls cs).answer c :=
  State.answer_congr rfl rfl c

/-- A primitive of an exchange, in the phase it is called in. -/
theorem portCall_in_exchange (c : PortCall) (which : FailedPrimitive) (s : State) (cs : List PortCall)
    (p : Phase) :
    portCall c which ((s.afterCalls cs).atPhase p) =
      if ((s.afterCalls cs).answer c).failed then
        .error ((s.afterCalls (cs ++ [c])).raise (.transport which))
      else .ok ((s.afterCalls (cs ++ [c])).atPhase p) := by
  simp only [portCall, State.answer_atPhase, State.afterCall_eq_afterCalls, State.afterCalls_atPhase,
    State.raise_atPhase, State.afterCalls_afterCalls]

/-- The read of an exchange. -/
theorem portRead_in_exchange (s : State) (cs : List PortCall) (p : Phase) :
    portRead ((s.afterCalls cs).atPhase p) =
      if ((s.afterCalls cs).answer (.read 5)).failed then
        .error ((s.afterCalls (cs ++ [.read 5])).loseReply.raise (.transport .read))
      else .ok (((s.afterCalls (cs ++ [.read 5])).storeReply
        (((s.afterCalls cs).answer (.read 5)).arrived.take 5)).atPhase p) := by
  simp only [portRead, Codec.replyLength, readBytes, State.answer_atPhase,
    State.afterCall_eq_afterCalls, State.afterCalls_atPhase, State.afterCalls_afterCalls]
  rfl

/-- The record step of an exchange that has built its frame and stored its reply. -/
theorem recordExchange_in_exchange (s : State) (cs : List PortCall) (code : Byte)
    (value : Option Byte) (reply : List Byte) (h : reply.length ≤ 5) (p : Phase) :
    recordExchange ((((s.built s.unit code value).afterCalls cs).storeReply reply).atPhase p) =
      { (((s.built s.unit code value).afterCalls cs).storeReply reply).atPhase p with
        trace := s.trace ++ [.send (Codec.buildFrame s.unit code value), .recv reply] } := by
  rw [recordExchange, State.txFrame_atPhase, State.txFrame_storeReply_frame, State.txFrame_afterCalls,
    State.txFrame_built, State.rxReply_atPhase, State.rxReply_storeReply _ _ h]
  rfl

theorem upcoming_exchange (s : State) (frame : List Byte) :
    s.upcoming (exchangeCalls frame) =
      [s.answer .flushIn, (s.afterCalls [.flushIn]).answer .flushOut,
        (s.afterCalls [.flushIn, .flushOut]).answer (.write frame),
        (s.afterCalls [.flushIn, .flushOut, .write frame]).answer (.read 5)] := by
  simp only [exchangeCalls, State.upcoming, State.afterCall_eq_afterCalls, State.afterCalls_afterCalls]
  rfl

/-- The exchange, its steps written out over the four answers it gets. -/
theorem exchange_eq (command : Byte) (value : Option Byte) (s : State) :
    ∃ d1 d2 d3 d4 : Draw,
      s.upcoming (exchangeCalls (Codec.buildFrame s.unit command value)) = [d1, d2, d3, d4] ∧
      exchange command value s =
        if d1.failed then .error (s.exchangeFailed command value 0)
        else if d2.failed then .error (s.exchangeFailed command value 1)
        else if d3.failed then .error (s.exchangeFailed command value 2)
        else if d4.failed then .error (s.exchangeFailed command value 3)
        else .ok ((s.exchanged command value (d4.arrived.take 5)).atPhase .record) := by
  refine ⟨_, _, _, _, upcoming_exchange s _, ?_⟩
  have hin : portFlushIn (s.atPhase .flush) = portCall .flushIn .flush ((s.afterCalls []).atPhase .flush) := by
    rw [State.afterCalls_nil]; rfl
  unfold exchange
  rw [hin, portCall_in_exchange, State.afterCalls_nil]
  by_cases h1 : (s.answer .flushIn).failed = true
  · simp only [if_pos h1]; rfl
  simp only [if_neg h1, portFlushOut, portCall_in_exchange, List.nil_append]
  by_cases h2 : ((s.afterCalls [.flushIn]).answer .flushOut).failed = true
  · simp only [if_pos h2]; rfl
  simp only [if_neg h2, List.cons_append, List.nil_append, frameBuild_eq, State.atPhase_atPhase,
    State.built_phase_calls, portWrite, State.atPhase_unit, State.afterCalls_unit,
    State.txFrame_atPhase, State.txFrame_afterCalls, State.txFrame_built, portCall_in_exchange,
    State.answer_built]
  by_cases h3 : ((s.afterCalls [.flushIn, .flushOut]).answer
      (.write (Codec.buildFrame s.unit command value))).failed = true
  · simp only [if_pos h3]; rfl
  simp only [if_neg h3, State.atPhase_atPhase, portRead_in_exchange, State.answer_built,
    List.cons_append, List.nil_append]
  by_cases h4 : ((s.afterCalls [.flushIn, .flushOut,
      .write (Codec.buildFrame s.unit command value)]).answer (.read 5)).failed = true
  · simp only [if_pos h4]; rfl
  simp only [if_neg h4, State.atPhase_atPhase]
  rw [recordExchange_in_exchange _ _ _ _ _ (by simp)]
  rfl

/-- Where no primitive fails, the exchange ends with the reply. -/
theorem exchange_of_reply {command : Byte} {value : Option Byte} {s : State} {reply : List Byte}
    (h : s.exchangeReply (Codec.buildFrame s.unit command value) = some reply) :
    exchange command value s = .ok ((s.exchanged command value reply).atPhase .record) := by
  obtain ⟨d1, d2, d3, d4, hu, he⟩ := exchange_eq command value s
  simp only [State.exchangeReply, hu] at h
  cases h1 : d1.failed <;> cases h2 : d2.failed <;> cases h3 : d3.failed <;> cases h4 : d4.failed <;>
    simp_all

/-- Where a primitive fails, the exchange ends there with `TransportError`. -/
theorem exchange_of_failure {command : Byte} {value : Option Byte} {s : State} {k : Nat}
    (h : s.firstFailure (Codec.buildFrame s.unit command value) = some k) :
    exchange command value s = .error (s.exchangeFailed command value k) := by
  obtain ⟨d1, d2, d3, d4, hu, he⟩ := exchange_eq command value s
  simp only [State.firstFailure, hu] at h
  cases h1 : d1.failed <;> cases h2 : d2.failed <;> cases h3 : d3.failed <;> cases h4 : d4.failed <;>
    simp_all [List.findIdx?_cons]

/-- An exchange does one of two things. -/
theorem exchange_cases (command : Byte) (value : Option Byte) (s : State) :
    (∃ reply, reply.length ≤ 5 ∧
      s.exchangeReply (Codec.buildFrame s.unit command value) = some reply ∧
      exchange command value s = .ok ((s.exchanged command value reply).atPhase .record)) ∨
    (∃ k, k < 4 ∧ s.firstFailure (Codec.buildFrame s.unit command value) = some k ∧
      exchange command value s = .error (s.exchangeFailed command value k)) := by
  obtain ⟨d1, d2, d3, d4, hu, he⟩ := exchange_eq command value s
  by_cases hall : d1.failed = false ∧ d2.failed = false ∧ d3.failed = false ∧ d4.failed = false
  · obtain ⟨h1, h2, h3, h4⟩ := hall
    have hr : s.exchangeReply (Codec.buildFrame s.unit command value) = some (d4.arrived.take 5) := by
      simp [State.exchangeReply, hu, h1, h2, h3, h4]
    exact .inl ⟨_, by simp, hr, exchange_of_reply hr⟩
  · have hk : ∃ k, k < 4 ∧ s.firstFailure (Codec.buildFrame s.unit command value) = some k := by
      simp only [State.firstFailure, hu]
      cases h1 : d1.failed <;> cases h2 : d2.failed <;> cases h3 : d3.failed <;>
        cases h4 : d4.failed <;> simp_all [List.findIdx?_cons]
    obtain ⟨k, hk4, hk⟩ := hk
    exact .inr ⟨k, hk4, hk, exchange_of_failure hk⟩

/-! ### Fields of the states an exchange leaves -/

section

variable (s : State) (code : Byte) (value : Option Byte)

@[simp] theorem State.built_crc (unit : Byte) :
    (s.built unit code value).crc = Codec.checksum (Codec.frameBody unit code value) := rfl

@[simp] theorem State.afterCalls_crc (cs : List PortCall) : (s.afterCalls cs).crc = s.crc := rfl

variable (k : Nat)

@[simp] theorem State.exchangeFailed_unit : (s.exchangeFailed code value k).unit = s.unit := by
  unfold State.exchangeFailed; split <;> rfl

@[simp] theorem State.exchangeFailed_portId : (s.exchangeFailed code value k).portId = s.portId := by
  unfold State.exchangeFailed; split <;> rfl

@[simp] theorem State.exchangeFailed_timeout : (s.exchangeFailed code value k).timeout = s.timeout := by
  unfold State.exchangeFailed; split <;> rfl

@[simp] theorem State.exchangeFailed_isOpen : (s.exchangeFailed code value k).isOpen = s.isOpen := by
  unfold State.exchangeFailed; split <;> rfl

@[simp] theorem State.exchangeFailed_constructed : (s.exchangeFailed code value k).constructed = s.constructed := by
  unfold State.exchangeFailed; split <;> rfl

@[simp] theorem State.exchangeFailed_cmd : (s.exchangeFailed code value k).cmd = s.cmd := by
  unfold State.exchangeFailed; split <;> rfl

@[simp] theorem State.exchangeFailed_valp : (s.exchangeFailed code value k).valp = s.valp := by
  unfold State.exchangeFailed; split <;> rfl

@[simp] theorem State.exchangeFailed_val : (s.exchangeFailed code value k).val = s.val := by
  unfold State.exchangeFailed; split <;> rfl

@[simp] theorem State.exchangeFailed_sw : (s.exchangeFailed code value k).sw = s.sw := by
  unfold State.exchangeFailed; split <;> rfl

@[simp] theorem State.exchangeFailed_ack : (s.exchangeFailed code value k).ack = s.ack := by
  unfold State.exchangeFailed; split <;> rfl

@[simp] theorem State.exchangeFailed_trace : (s.exchangeFailed code value k).trace = s.trace := by
  unfold State.exchangeFailed; split <;> rfl

@[simp] theorem State.exchangeFailed_requests : (s.exchangeFailed code value k).requests = s.requests := by
  unfold State.exchangeFailed; split <;> rfl

@[simp] theorem State.exchangeFailed_phase : (s.exchangeFailed code value k).phase = .idle := by
  unfold State.exchangeFailed; split <;> rfl

@[simp] theorem State.exchangeFailed_fault : (s.exchangeFailed code value k).fault = .transport := by
  unfold State.exchangeFailed; split <;> rfl

@[simp] theorem State.exchangeFailed_resKind : (s.exchangeFailed code value k).resKind = .fault := by
  unfold State.exchangeFailed; split <;> rfl

/-- Before the build step the transmit buffer and the accumulator are as they were. -/
theorem State.exchangeFailed_before_build (h : k < 2) :
    (s.exchangeFailed code value k).txBuf = s.txBuf ∧ (s.exchangeFailed code value k).txLen = s.txLen ∧
      (s.exchangeFailed code value k).crc = s.crc := by
  match k, h with
  | 0, _ => exact ⟨rfl, rfl, rfl⟩
  | 1, _ => exact ⟨rfl, rfl, rfl⟩

/-- After the build step they hold the new frame and its checksum. -/
theorem State.exchangeFailed_after_build (h : 2 ≤ k) :
    (s.exchangeFailed code value k).txFrame = Codec.buildFrame s.unit code value ∧
      (s.exchangeFailed code value k).crc = Codec.checksum (Codec.frameBody s.unit code value) := by
  match k, h with
  | 2, _ => exact ⟨s.txFrame_built s.unit code value, rfl⟩
  | _ + 3, _ =>
    refine ⟨Eq.trans ?_ (s.txFrame_built s.unit code value), ?_⟩
    · rfl
    · simp [State.exchangeFailed]

/-- Before the read step the receive buffer is as it was. -/
theorem State.exchangeFailed_before_read (h : k < 3) :
    (s.exchangeFailed code value k).rxBuf = s.rxBuf ∧
      (s.exchangeFailed code value k).rxLen = s.rxLen := by
  match k, h with
  | 0, _ => exact ⟨rfl, rfl⟩
  | 1, _ => exact ⟨rfl, rfl⟩
  | 2, _ => exact ⟨rfl, rfl⟩

end

end Sys2Proof.Machine
end

