-- ==== Sys2Proof/Laws/Commands.lean ====
section
/-! SUPPORT. Once, everything a command, a construction, a teardown and a step can do. -/

namespace Sys2Proof.Machine

/-! ### Operations that need a ready block -/

theorem requireReady_of_ready {s : State} (h : s.ready)
    (run : State → Host.Outcome State Fault Refusal) : requireReady s run = run s := by
  simp [requireReady, h.1, h.2]

/-- What reaches the transport either refuses, by the name of what is missing, or goes on. -/
theorem requireReady_cases (s : State) (run : State → Host.Outcome State Fault Refusal) :
    (s.isOpen = false ∧ requireReady s run = .refused .notOpen) ∨
    (s.isOpen = true ∧ s.phase ≠ .idle ∧ requireReady s run = .refused .busy) ∨
    (s.ready ∧ requireReady s run = run s) := by
  unfold requireReady State.ready
  cases h : s.isOpen <;> by_cases hp : s.phase = .idle <;> simp [hp]

theorem whenReady_of_ready {s : State} (h : s.ready) (run : State → State) :
    whenReady s run = .next (run s) := by
  exact requireReady_of_ready h _

/-- The same where a next state always follows. -/
theorem whenReady_cases (s : State) (run : State → State) :
    (s.isOpen = false ∧ whenReady s run = .refused .notOpen) ∨
    (s.isOpen = true ∧ s.phase ≠ .idle ∧ whenReady s run = .refused .busy) ∨
    (s.ready ∧ whenReady s run = .next (run s)) :=
  requireReady_cases s _

/-! ### Commands -/

/-- The exchange depends on the command's start through the latches and `FAULT` only. -/
theorem State.exchangeReply_congr {s t : State} (hd : s.draws = t.draws) (hc : s.calls = t.calls)
    (frame : List Byte) : s.exchangeReply frame = t.exchangeReply frame := by
  simp [State.exchangeReply, State.upcoming_congr hd hc]

theorem State.firstFailure_congr {s t : State} (hd : s.draws = t.draws) (hc : s.calls = t.calls)
    (frame : List Byte) : s.firstFailure frame = t.firstFailure frame := by
  simp [State.firstFailure, State.upcoming_congr hd hc]

/-- A command whose operand is illegal takes `ValidationError` before any I/O. -/
theorem commandBody_of_illegal {row : CommandRow} {v : Int} {s : State}
    (h : row.source.accepts v = false) :
    commandBody row v s = s.raise (.validation row.code v) := by
  simp [commandBody, h, State.raise]

/-- A command whose exchange ends with a reply interprets it. -/
theorem commandBody_of_reply {row : CommandRow} {v : Int} {s : State} {reply : List Byte}
    (h : row.source.accepts v = true)
    (hr : s.exchangeReply (Codec.buildFrame s.unit row.code (row.source.valueByte v)) = some reply) :
    commandBody row v s =
      interpretReply row.result
        (((s.commandStarted row.code (row.source.valueByte v)).exchanged row.code
          (row.source.valueByte v) reply).atPhase .interpret) := by
  simp only [commandBody, h, if_true]
  rw [exchange_of_reply (reply := reply)]
  · rfl
  · rw [← hr]; exact State.exchangeReply_congr rfl rfl _

/-- A command whose exchange fails has taken `TransportError`. -/
theorem commandBody_of_failure {row : CommandRow} {v : Int} {s : State} {k : Nat}
    (h : row.source.accepts v = true)
    (hk : s.firstFailure (Codec.buildFrame s.unit row.code (row.source.valueByte v)) = some k) :
    commandBody row v s =
      (s.commandStarted row.code (row.source.valueByte v)).exchangeFailed row.code
        (row.source.valueByte v) k := by
  simp only [commandBody, h, if_true]
  rw [exchange_of_failure (k := k)]
  · rcases k with _ | _ | _ | k <;> rfl
  · rw [← hk]; exact State.firstFailure_congr rfl rfl _

/-- A command does one of three things. -/
theorem commandBody_cases (row : CommandRow) (v : Int) (s : State) :
    (row.source.accepts v = false ∧ commandBody row v s = s.raise (.validation row.code v)) ∨
    (row.source.accepts v = true ∧ ∃ k, k < 4 ∧
      s.firstFailure (Codec.buildFrame s.unit row.code (row.source.valueByte v)) = some k ∧
      commandBody row v s = (s.commandStarted row.code (row.source.valueByte v)).exchangeFailed
        row.code (row.source.valueByte v) k) ∨
    (row.source.accepts v = true ∧ ∃ reply, reply.length ≤ 5 ∧
      s.exchangeReply (Codec.buildFrame s.unit row.code (row.source.valueByte v)) = some reply ∧
      commandBody row v s = interpretReply row.result
        (((s.commandStarted row.code (row.source.valueByte v)).exchanged row.code
          (row.source.valueByte v) reply).atPhase .interpret)) := by
  cases ha : row.source.accepts v
  · exact .inl ⟨rfl, commandBody_of_illegal ha⟩
  · rcases exchange_cases row.code (row.source.valueByte v) s with ⟨r, hr5, hr, _⟩ | ⟨k, hk4, hk, _⟩
    · exact .inr (.inr ⟨rfl, r, hr5, hr, commandBody_of_reply ha hr⟩)
    · exact .inr (.inl ⟨rfl, k, hk4, hk, commandBody_of_failure ha hk⟩)

@[simp] theorem State.rxReply_exchanged (s : State) (code : Byte) (value : Option Byte)
    (reply : List Byte) (h : reply.length ≤ 5) : (s.exchanged code value reply).rxReply = reply := by
  simp only [State.rxReply, State.exchanged, count5_val h, Buffer5.holding_take _ _ h]

theorem State.phase_exchanged (s : State) (code : Byte) (value : Option Byte) (reply : List Byte) :
    (s.exchanged code value reply).phase = s.phase := rfl

theorem State.rxLen_exchanged (s : State) (code : Byte) (value : Option Byte) (reply : List Byte) :
    (s.exchanged code value reply).rxLen = count5 reply.length := rfl

/-- The ack bit of a stored reply. -/
theorem ackBit_count5 {reply : List Byte} (h : reply.length ≤ 5) :
    ackBit (count5 reply.length) = decide (reply ≠ []) := by
  simp only [ackBit, count5_val h]
  cases reply <;> simp

theorem interpretReply_bool {s : State} (h : s.phase = .idle) :
    interpretReply .bool (s.atPhase .interpret) = { s with ack := ackBit s.rxLen, resKind := .bool } := by
  simp only [interpretReply, ackTest, State.finish, State.atPhase, ← h]

theorem interpretReply_none {s : State} (h : s.phase = .idle) :
    interpretReply .none (s.atPhase .interpret) = { s with resKind := .none } := by
  simp only [interpretReply, State.finish, State.atPhase, ← h]

/-- The interpretation of a status reply: `SW`, or `ProtocolError`. -/
theorem interpretReply_status {s : State} (h : s.phase = .idle) :
    interpretReply .status (s.atPhase .interpret) =
      match decodeStatus s.rxReply with
      | some sw => { s with sw := sw, resKind := .status }
      | none => { s with fault := .protocol, finfo := .protocol .decode s.rxReply.length,
                         resKind := .fault } := by
  simp only [interpretReply, statusDecode, State.rxReply_atPhase]
  cases decodeStatus s.rxReply <;>
    simp [State.finish, State.atPhase, State.raise, FaultInfo.faultCode, h]

/-- A command on a ready block whose transport answers `reply`; the row's columns are given as
equations, so that no proof computes with a concrete code. -/
theorem runCommand_of_reply {c : Command} {v : Int} {s : State} {reply : List Byte} {code : Byte}
    {value : Option Byte} {result : CommandResult} (hs : s.ready)
    (hc : c.row.code = code) (hv : c.row.source.valueByte v = value) (hres : c.row.result = result)
    (ha : c.row.source.accepts v = true)
    (hr : s.exchangeReply (Codec.buildFrame s.unit code value) = some reply) :
    runCommand c v s = .next (interpretReply result
      (((s.commandStarted code value).exchanged code value reply).atPhase .interpret)) := by
  subst hc hv hres
  rw [runCommand, whenReady_of_ready hs, commandBody_of_reply ha hr]

/-- A command on a ready block whose transport fails. -/
theorem runCommand_of_failure {c : Command} {v : Int} {s : State} {k : Nat} {code : Byte}
    {value : Option Byte} (hs : s.ready)
    (hc : c.row.code = code) (hv : c.row.source.valueByte v = value)
    (ha : c.row.source.accepts v = true)
    (hk : s.firstFailure (Codec.buildFrame s.unit code value) = some k) :
    runCommand c v s = .next ((s.commandStarted code value).exchangeFailed code value k) := by
  subst hc hv
  rw [runCommand, whenReady_of_ready hs, commandBody_of_failure ha hk]

/-- `exec` of a command is a run of the shared routine. -/
theorem exec_of_asCommand {i : Instr} {c : Command} {v : Int} (h : i.asCommand = some (c, v))
    (s : State) : exec i s = runCommand c v s := by
  cases i <;> simp [Instr.asCommand] at h <;> obtain ⟨rfl, rfl⟩ := h <;> rfl

/-- A reply has at most five bytes. -/
theorem State.exchangeReply_length {s : State} {frame reply : List Byte}
    (h : s.exchangeReply frame = some reply) : reply.length ≤ 5 := by
  unfold State.exchangeReply at h
  split at h
  · simp only [Option.map_eq_some_iff] at h
    obtain ⟨d, _, rfl⟩ := h
    simp
  · cases h

/-- One of four primitives fails first. -/
theorem State.firstFailure_lt {s : State} {frame : List Byte} {k : Nat}
    (h : s.firstFailure frame = some k) : k < 4 := by
  have := (List.findIdx?_eq_some_iff_findIdx_eq.mp h).1
  simpa [State.upcoming, exchangeCalls] using this

/-! ### Construction and teardown -/

/-- `CONSTRUCT` refuses, fails to open, or opens. -/
theorem execConstruct_cases (port : PortId) (unit : Int) (timeout : Option Duration) (s : State) :
    let s0 : State := { s with portId := port, unit := BitVec.ofInt 8 unit,
                               timeout := timeout.getD Config.defaultTimeout }
    let c := PortCall.openPort port (timeout.getD Config.defaultTimeout)
    (s.constructed = true ∧ execConstruct port unit timeout s = .refused .alreadyConstructed) ∨
    (s.constructed = false ∧ unitInRange unit = false ∧
      execConstruct port unit timeout s = .refused .unitOutOfRange) ∨
    (s.constructed = false ∧ unitInRange unit = true ∧ (s.answer c).failed = true ∧
      execConstruct port unit timeout s =
        .next ((s0.afterCall c).loseWorking.raise (.transport .openPort))) ∨
    (s.constructed = false ∧ unitInRange unit = true ∧ (s.answer c).failed = false ∧
      execConstruct port unit timeout s =
        .next { s0.afterCall c with isOpen := true, constructed := true, phase := .idle,
                                    fault := .noFault, trace := [] }) := by
  intro s0 c
  have ha : s0.answer c = s.answer c := State.answer_congr rfl rfl _
  have hx : execConstruct port unit timeout s =
      if s.constructed then .refused .alreadyConstructed
      else if unitInRange unit then
        match portOpen s0 with
        | .error s' => .next s'
        | .ok s' => .next { s' with isOpen := true, constructed := true, phase := .idle,
                                    fault := .noFault, trace := [] }
      else .refused .unitOutOfRange := rfl
  rw [hx]
  cases hc : s.constructed
  · cases hu : unitInRange unit
    · simp
    · rcases portOpen_cases s0 with ⟨hf, he⟩ | ⟨hf, he⟩ <;>
        (replace hf := (congrArg Draw.failed ha).symm.trans hf) <;> rw [he] <;> simp [hf] <;> rfl
  · simp

/-- `EXCHANGE` refuses, by the name of what is missing or because its code is unassigned, or takes
`TransportError`, or completes. -/
theorem execExchange_cases (command : Byte) (value : Option Byte) (s : State) :
    (s.isOpen = false ∧ execExchange command value s = .refused .notOpen) ∨
    (s.isOpen = true ∧ s.phase ≠ .idle ∧ execExchange command value s = .refused .busy) ∨
    (s.ready ∧ Command.ofCode command = none ∧
      execExchange command value s = .refused .unassignedCommand) ∨
    (s.ready ∧ (∃ c : Command, c.row.code = command) ∧ ∃ k, k < 4 ∧
      s.firstFailure (Codec.buildFrame s.unit command value) = some k ∧
      execExchange command value s = .next (s.exchangeFailed command value k)) ∨
    (s.ready ∧ (∃ c : Command, c.row.code = command) ∧ ∃ reply, reply.length ≤ 5 ∧
      s.exchangeReply (Codec.buildFrame s.unit command value) = some reply ∧
      execExchange command value s = .next (s.exchanged command value reply)) := by
  unfold execExchange
  rcases requireReady_cases s _ with ⟨h, he⟩ | ⟨h, hp, he⟩ | ⟨h, he⟩ <;> rw [he]
  · exact .inl ⟨h, rfl⟩
  · exact .inr (.inl ⟨h, hp, rfl⟩)
  · cases hc : Command.ofCode command with
    | none => exact .inr (.inr (.inl ⟨h, rfl, rfl⟩))
    | some c =>
      have hcode := Command.code_of_ofCode hc
      rcases exchange_cases command value s with ⟨r, hl, hr, hx⟩ | ⟨k, hk4, hk, hx⟩
      · refine .inr (.inr (.inr (.inr ⟨h, ⟨c, hcode⟩, r, hl, hr, ?_⟩)))
        have hp : (s.exchanged command value r).phase = .idle := h.2
        simp only [exchangeAlone, hx, State.atPhase, ← hp]
      · exact .inr (.inr (.inr (.inl ⟨h, ⟨c, hcode⟩, k, hk4, hk, by simp only [exchangeAlone, hx]⟩)))

/-- `TEARDOWN` closes an open block and does nothing to a closed one. -/
theorem execTeardown_cases (s : State) :
    (s.isOpen = true ∧
      execTeardown s = .next { s with isOpen := false, calls := s.calls ++ [.closePort] }) ∨
    (s.isOpen = false ∧ execTeardown s = .next s) := by
  unfold execTeardown portClose
  cases h : s.isOpen <;> simp

/-! ### One step -/

/-- A step that answers a next state was idle, or ran the operation of the host's next request. -/
theorem step_next {s t : State} (h : step s = .next t) :
    (s.requests = [] ∧ t = s) ∨
    ∃ r rest i, s.requests = r :: rest ∧ operationOf s.unit r = .ok i ∧
      exec i { s with requests := rest } = .next t := by
  unfold step at h
  cases hr : s.requests with
  | nil => simp only [hr] at h; cases h; exact .inl ⟨rfl, rfl⟩
  | cons r rest =>
    simp only [hr] at h
    cases ho : operationOf s.unit r with
    | error e => rw [ho] at h; cases h
    | ok i => rw [ho] at h; exact .inr ⟨r, rest, i, rfl, ho, h⟩

end Sys2Proof.Machine
end

