-- ==== Sys2Proof/Laws/PerInstr.lean ====
section
/-! SUPPORT. The family `EncodeLength`: how long the frame of each operation is
(30_encoding.md R50, R55). -/

namespace Sys2Proof.Laws.EncodeLength

/-- An operation's frame, where it has one, is 4 bytes long for `query_state` and 5 for every
other. -/
def Statement (i : Instr) : Prop :=
  ∀ (unit : Byte) (bytes : List Byte), encode unit i = some bytes →
    bytes.length = if i = .queryState then 4 else 5

/-- An operation that is a command with a VALUE byte has a frame of 5 bytes. -/
theorem of_command {i : Instr} {c : Command} {v : Int} {w : Byte} (hi : i.asCommand = some (c, v))
    (hw : c.row.source.valueByte v = some w) (hq : i ≠ .queryState) : Statement i := by
  intro unit bytes h
  unfold encode at h
  rw [hi] at h
  simp only [hw] at h
  split at h
  · cases h
    simp [Codec.buildFrame, Codec.frameBody, hq]
  · cases h

/-- An operation that no frame carries. -/
theorem of_none {i : Instr} (hi : i.asCommand = none) : Statement i := by
  intro unit bytes h
  unfold encode at h
  rw [hi] at h
  cases h

theorem assignAddress (v : Int) : Statement (.assignAddress v) :=
  of_command rfl rfl (by simp)

theorem releaseAddress : Statement .releaseAddress := of_command rfl rfl (by simp)

theorem setPulsePerTurn (v : Int) : Statement (.setPulsePerTurn v) :=
  of_command rfl rfl (by simp)

theorem setSpeed (v : Int) : Statement (.setSpeed v) :=
  of_command rfl rfl (by simp)

theorem setMaxSpeed (v : Int) : Statement (.setMaxSpeed v) :=
  of_command rfl rfl (by simp)

theorem setAcceleration (v : Int) : Statement (.setAcceleration v) :=
  of_command rfl rfl (by simp)

theorem setSlowdown (v : Int) : Statement (.setSlowdown v) :=
  of_command rfl rfl (by simp)

theorem setDirection (v : Int) : Statement (.setDirection v) :=
  of_command rfl rfl (by simp)

theorem queryState : Statement .queryState := by
  intro unit bytes h
  cases h
  rfl

theorem startMove : Statement .startMove := of_command rfl rfl (by simp)

theorem stopMove : Statement .stopMove := of_command rfl rfl (by simp)

theorem crcClr : Statement .crcClr := of_none rfl

theorem crcBit (b : Byte) (pos : BitPos) :
    Statement (.crcBit b pos) := of_none rfl

theorem crcByte (b : Byte) :
    Statement (.crcByte b) := of_none rfl

theorem checksum (bytes : List Byte) :
    Statement (.checksum bytes) := of_none rfl

theorem buildFrame (unit command : Byte) (value : Option Byte) :
    Statement (.buildFrame unit command value) := of_none rfl

theorem ackTest : Statement .ackTest := of_none rfl

theorem decodeStatus (reply : List Byte) :
    Statement (.decodeStatus reply) := of_none rfl

theorem exchange (command : Byte) (value : Option Byte) :
    Statement (.exchange command value) := of_none rfl

theorem construct (port : PortId) (unit : Int) (timeout : Option Duration) :
    Statement (.construct port unit timeout) := of_none rfl

theorem teardown : Statement .teardown := of_none rfl

end Sys2Proof.Laws.EncodeLength
end

