-- ==== Sys2Proof/Tests/Slice0.lean ====
section
/-! SUPPORT. Tests. Expected values come from spec/95_test_vectors.md and from the examples in the
rules; each comment names the source. The `witness_` theorems show states and operands that meet the
hypotheses of the statements in Certificates/Slice0/Obligations.lean. -/

open Sys2Proof Sys2Proof.Machine Sys2Proof.Claims

namespace Sys2Proof.Tests

-- One theorem at a time: the check runs in bounded memory, and every task keeps a stack.
set_option Elab.async false

/-! ### Helpers -/

/-- The next state, if there is one. -/
def after : Host.Outcome State Fault Refusal → Option State
  | .next s => some s
  | .fault _ => none
  | .refused _ => none

/-- The refusal, if there is one. -/
def refusal : Host.Outcome State Fault Refusal → Option Refusal
  | .next _ => none
  | .fault _ => none
  | .refused r => some r

/-- An open block with unit 1 on a transport that will give these answers. -/
def openBlock (draws : List Draw) : State :=
  { State.reset with unit := 0x01, isOpen := true, constructed := true, draws := draws }

/-- A transport that does not fail and answers the read with `reply`. -/
def replies (reply : List Byte) : List Draw :=
  [⟨false, []⟩, ⟨false, []⟩, ⟨false, []⟩, ⟨false, reply⟩]

/-- A transport whose primitive `k` fails. -/
def failsAt (k : Nat) : List Draw := List.replicate k ⟨false, []⟩ ++ [⟨true, []⟩]

/-- The source's example reply of a status query. -/
def statusReply : List Byte := [0x00, 0xB5, 0x02, 0x64, 0x00]

/-! ### WellFormed: a term that each check refuses (42_commands.md R90, 95_test_vectors.md D8) -/

theorem test_wellFormed_assign_address :
    [(-1 : Int), 0, 254, 255].map (fun v => Instr.wellFormed (.assignAddress v)) = [false, true, true, false] := by
  decide

theorem test_wellFormed_set_pulse_per_turn :
    [(-1 : Int), 0, 255, 256].map (fun v => Instr.wellFormed (.setPulsePerTurn v)) = [false, true, true, false] := by
  decide

theorem test_wellFormed_set_speed :
    [(-1 : Int), 0, 250, 251].map (fun v => Instr.wellFormed (.setSpeed v)) = [false, true, true, false] := by
  decide

theorem test_wellFormed_set_max_speed :
    [(-1 : Int), 0, 250, 251].map (fun v => Instr.wellFormed (.setMaxSpeed v)) = [false, true, true, false] := by
  decide

theorem test_wellFormed_set_acceleration :
    [(0 : Int), 1, 24, 25].map (fun v => Instr.wellFormed (.setAcceleration v)) = [false, true, true, false] := by
  decide

theorem test_wellFormed_set_slowdown :
    [(0 : Int), 1, 24, 25].map (fun v => Instr.wellFormed (.setSlowdown v)) = [false, true, true, false] := by
  decide

theorem test_wellFormed_set_direction :
    [(-1 : Int), 0, 1, 2].map (fun v => Instr.wellFormed (.setDirection v)) = [false, true, true, false] := by
  decide

theorem test_wellFormed_construct_unit :
    [(-1 : Int), 0, 254, 255].map (fun u => Instr.wellFormed (.construct [] u none)) =
      [false, true, true, false] := by decide +kernel

theorem test_wellFormed_construct_timeout :
    [(-1 : Duration), 0, 1].map (fun d => Instr.wellFormed (.construct [] 1 (some d))) =
      [false, false, true] := by decide +kernel

/-! ### Decoding: one word of every command, byte by byte START, UNIT, COMMAND, VALUE, CHECKSUM
(30_encoding.md R50, R55; 95_test_vectors.md D4) -/

theorem test_decode_assign_address :
    decode [0xE6, 0x05, 0xA0, 0xFE, 0xB4] = .ok (0x05, .assignAddress 254) ∧ encode 0x05 (.assignAddress 254) = some [0xE6, 0x05, 0xA0, 0xFE, 0xB4] := by
  decide +kernel

theorem test_decode_release_address :
    decode [0xE6, 0x05, 0xA1, 0x00, 0xFF] = .ok (0x05, .releaseAddress) ∧ encode 0x05 (.releaseAddress) = some [0xE6, 0x05, 0xA1, 0x00, 0xFF] := by
  decide +kernel

theorem test_decode_set_pulse_per_turn :
    decode [0xE6, 0x01, 0xA2, 0xC8, 0xB1] = .ok (0x01, .setPulsePerTurn 200) ∧ encode 0x01 (.setPulsePerTurn 200) = some [0xE6, 0x01, 0xA2, 0xC8, 0xB1] := by
  decide +kernel

theorem test_decode_set_speed :
    decode [0xE6, 0x00, 0xA3, 0xFA, 0x64] = .ok (0x00, .setSpeed 250) ∧ encode 0x00 (.setSpeed 250) = some [0xE6, 0x00, 0xA3, 0xFA, 0x64] := by
  decide +kernel

theorem test_decode_set_max_speed :
    decode [0xE6, 0x01, 0xA4, 0x78, 0xC5] = .ok (0x01, .setMaxSpeed 120) ∧ encode 0x01 (.setMaxSpeed 120) = some [0xE6, 0x01, 0xA4, 0x78, 0xC5] := by
  decide +kernel

theorem test_decode_set_acceleration :
    decode [0xE6, 0xFE, 0xA5, 0x18, 0x2C] = .ok (0xFE, .setAcceleration 24) ∧ encode 0xFE (.setAcceleration 24) = some [0xE6, 0xFE, 0xA5, 0x18, 0x2C] := by
  decide +kernel

theorem test_decode_set_slowdown :
    decode [0xE6, 0x01, 0xA6, 0x0C, 0x00] = .ok (0x01, .setSlowdown 12) ∧ encode 0x01 (.setSlowdown 12) = some [0xE6, 0x01, 0xA6, 0x0C, 0x00] := by
  decide +kernel

theorem test_decode_set_direction :
    decode [0xE6, 0x05, 0xA7, 0x01, 0x0A] = .ok (0x05, .setDirection 1) ∧ encode 0x05 (.setDirection 1) = some [0xE6, 0x05, 0xA7, 0x01, 0x0A] := by
  decide +kernel

theorem test_decode_query_state :
    decode [0xE6, 0xFE, 0x50, 0x13] = .ok (0xFE, .queryState) ∧ encode 0xFE (.queryState) = some [0xE6, 0xFE, 0x50, 0x13] := by
  decide +kernel

theorem test_decode_start_move :
    decode [0xE6, 0x01, 0x51, 0x00, 0xDA] = .ok (0x01, .startMove) ∧ encode 0x01 (.startMove) = some [0xE6, 0x01, 0x51, 0x00, 0xDA] := by
  decide +kernel

theorem test_decode_stop_move :
    decode [0xE6, 0x00, 0x52, 0x00, 0x02] = .ok (0x00, .stopMove) ∧ encode 0x00 (.stopMove) = some [0xE6, 0x00, 0x52, 0x00, 0x02] := by
  decide +kernel

/-- The same frame written out bit by bit: START 1110_0110, UNIT 0000_0001, COMMAND 1010_0011, VALUE
0110_0100, CHECKSUM 1100_0110. -/
theorem test_decodeTableWord_bits :
    decodeTableWord 40 0b1110011000000001101000110110010011000110 = some (.setSpeed 100) := by
  decide +kernel

/-- The match words of spec/opcode_table.json whose VALUE 0x00 is legal, checksum left zero. -/
theorem test_decodeTableWord_match :
    [decodeTableWord 40 0xE600A00000, decodeTableWord 40 0xE600A10000,
      decodeTableWord 40 0xE600A20000, decodeTableWord 40 0xE600A30000,
      decodeTableWord 40 0xE600A40000, decodeTableWord 40 0xE600A50100,
      decodeTableWord 40 0xE600A60100, decodeTableWord 40 0xE600A70000,
      decodeTableWord 32 0xE6005000, decodeTableWord 40 0xE600510000,
      decodeTableWord 40 0xE600520000] =
    [some (.assignAddress 0), some .releaseAddress, some (.setPulsePerTurn 0), some (.setSpeed 0),
      some (.setMaxSpeed 0), some (.setAcceleration 1), some (.setSlowdown 1),
      some (.setDirection 0), some .queryState, some .startMove, some .stopMove] := by
  decide +kernel

/-- The match words of 0xA5 and 0xA6 carry VALUE 0x00, which is outside their range. -/
theorem test_decodeTableWord_zero_operand :
    decodeTableWord 40 0xE600A50000 = none ∧ decodeTableWord 40 0xE600A60000 = none := by
  decide +kernel

/-- `withFetchWord` makes the next step run the word's command. -/
theorem test_withFetchWord_query_state :
    (after (step (State.reset.withFetchWord 32 0xE6015000))).isSome = true ∧
    (after (step (State.withFetchWord { State.reset with draws := replies statusReply } 32
        0xE6015000))).map
      (fun t => (t.requests, t.txLen, t.sw.turn, t.resKind)) = some ([], 4, 1282, .status) := by
  decide +kernel

/-- 95_test_vectors.md D5 and the raw frames of D4. -/
theorem test_decode_refuses :
    [decode [0xE6, 0x01, 0xA3, 0x64, 0xC7], decode [0xE7, 0x01, 0xA3, 0x64, 0xC6],
      decode [0xE6, 0x01, 0xA3], decode [0xE6, 0x01, 0xA3, 0x64, 0xC6, 0x00],
      decode [0xE6, 0x01, 0x00, 0xFF], decode [0xE6, 0xFF, 0x50, 0xEC],
      decode [0xE6, 0x01, 0xFF, 0xFF, 0x43], decode [0xE6, 0x01, 0xA3, 0xFF, 0x41],
      decode [0xE6, 0x01, 0x50, 0x00, 0x25], decode [0xE6, 0x01, 0xA3, 0x88]] =
    [.error .wrongChecksum, .error .wrongStart, .error .wrongLength, .error .wrongLength,
      .error .unknownCommand, .error .unitOutOfRange, .error .unknownCommand,
      .error .valueOutOfRange, .error .unexpectedValue, .error .missingValue] := by
  decide +kernel

/-! ### The CRC unit -/

theorem test_crcClr :
    (after (exec .crcClr { State.reset with crc := 0xF5 })).map (·.crc) = some 0x00 := by decide

/-- 95_test_vectors.md D1, five rows: taken and untaken, low and top position, bit 0 lost. -/
theorem test_crcBit :
    [((0x00 : Byte), (0x01 : Byte), (0 : BitPos)), (0x8C, 0x01, 1), (0xFF, 0x00, 0), (0x7F, 0x80, 7),
      (0xA5, 0x5A, 4)].map (fun p =>
        (after (exec (.crcBit p.2.1 p.2.2) { State.reset with crc := p.1 })).map (·.crc)) =
      [some 0x8C, some 0x46, some 0xF3, some 0xB3, some 0xDE] := by decide +kernel

/-- 95_test_vectors.md D2. -/
theorem test_crcByte :
    [((0x35 : Byte), (0xA3 : Byte)), (0xFF, 0xFF), (0xF5, 0x50), (0xAA, 0x00), (0x55, 0x0F)].map
      (fun p => (after (exec (.crcByte p.2) { State.reset with crc := p.1 })).map (·.crc)) =
      [some 0x80, some 0xBE, some 0xEE, some 0x00, some 0x00] := by decide +kernel

/-- 95_test_vectors.md D3, from an accumulator that an earlier use left at 0xC6. -/
theorem test_checksum :
    [([] : List Byte), [0xFF, 0xFF, 0xFF], [0x50, 0x01],
      [0x31, 0x32, 0x33, 0x34, 0x35, 0x36, 0x37, 0x38, 0x39]].map
      (fun bytes => (after (exec (.checksum bytes) { State.reset with crc := 0xC6 })).map (·.crc)) =
      [some 0x00, some 0x43, some 0x2F, some 0x05] := by decide +kernel

/-- 93_implementation_defined.md G1: the fold follows its parameter `CRC_TAP`. With bit 0 of the
accumulator against bit `i` of the byte it gives the table's second column. -/
theorem test_crcTap_is_a_parameter :
    [([0x01] : List Byte), [0x01, 0x50], [0x01, 0xA3, 0x64],
      [0x31, 0x32, 0x33, 0x34, 0x35, 0x36, 0x37, 0x38, 0x39]].map
      (Codec.checksumWith { crcTap := fun crc b i => crc.getLsbD 0 ^^ b.getLsbD i.val }) =
      [0x5E, 0x1F, 0x14, 0xA1] := by decide +kernel

/-! ### The framer unit and the status decoder -/

/-- 95_test_vectors.md P4 step 5 and D4 (raw encoder, unit 255). -/
theorem test_buildFrame :
    (after (exec (.buildFrame 0x01 0xA3 (some 0x64)) State.reset)).map
      (fun t => (t.txFrame, t.txLen, t.crc)) = some ([0xE6, 0x01, 0xA3, 0x64, 0xC6], 5, 0xC6) ∧
    (after (exec (.buildFrame 0xFF 0x50 none) State.reset)).map
      (fun t => (t.txFrame, t.txLen)) = some ([0xE6, 0xFF, 0x50, 0xEC], 4) := by decide +kernel

/-- 95_test_vectors.md D6. -/
theorem test_ackTest :
    [(0 : Count5), 1, 5].map (fun n =>
      (after (exec .ackTest { State.reset with rxLen := n })).map (·.ack)) =
      [some false, some true, some true] := by decide

/-- 95_test_vectors.md S1 and D7: the source's example, the lone flags, six bytes. -/
theorem test_decodeStatus :
    [statusReply, [0x00, 0x40, 0x00, 0x00, 0x00], [0x00, 0x20, 0x00, 0x00, 0x00],
      [0x00, 0x0F, 0xFF, 0x00, 0x00], [0x00, 0xB5, 0x02, 0x64, 0x00, 0x99]].map
      (fun r => (after (exec (.decodeStatus r) State.reset)).map (·.sw)) =
      [some ⟨true, false, true, true, 1282, 100⟩, some ⟨false, true, false, false, 0, 0⟩,
        some ⟨false, false, true, false, 0, 0⟩, some ⟨false, false, false, false, 4095, 0⟩,
        some ⟨true, false, true, true, 1282, 100⟩] := by decide +kernel

/-- 95_test_vectors.md D7: four bytes are too few. -/
theorem test_decodeStatus_short :
    (after (exec (.decodeStatus [0x00, 0xB5, 0x02, 0x64]) State.reset)).map
      (fun t => (t.fault, t.finfo, t.sw)) =
      some (.protocol, .protocol .decode 4, State.reset.sw) := by decide +kernel

/-- 41_framer.md R83, the example; then 60_exceptions.md R116, rows `FLUSH`, `WRITE`, `READ`: what was
called before the fault. -/
theorem test_exchange :
    (after (exec (.exchange 0x50 none) (openBlock (replies statusReply)))).map
      (fun t => (t.rxReply, t.trace, t.calls)) =
      some (statusReply, [.send [0xE6, 0x01, 0x50, 0xEE], .recv statusReply],
        [.flushIn, .flushOut, .write [0xE6, 0x01, 0x50, 0xEE], .read 5]) ∧
    [0, 1, 2, 3].map (fun k =>
      (after (exec (.exchange 0x50 none) (openBlock (failsAt k)))).map
        (fun t => (t.finfo, t.calls.length, t.trace))) =
      [some (.transport .flush, 1, []), some (.transport .flush, 2, []),
        some (.transport .write, 3, []), some (.transport .read, 4, [])] := by decide +kernel

/-- 95_test_vectors.md D4, the raw frames of assigned codes: R83 checks no value. Then 30_encoding.md
R58: the neighbours of the assigned codes are refused. -/
theorem test_exchange_operands :
    [((0xA3 : Byte), (some 0xFF : Option Byte)), (0x50, some 0x00), (0xA3, none)].map
      (fun p => (after (exec (.exchange p.1 p.2) (openBlock (replies [])))).map (·.txFrame)) =
      [some [0xE6, 0x01, 0xA3, 0xFF, 0x41], some [0xE6, 0x01, 0x50, 0x00, 0x25],
        some [0xE6, 0x01, 0xA3, 0x88]] ∧
    [((0x4F : Byte), (none : Option Byte)), (0x53, some 0x00), (0x9F, none), (0xA8, some 0x00)].map
      (fun p => refusal (exec (.exchange p.1 p.2) (openBlock (replies [])))) =
      List.replicate 4 (some .unassignedCommand) := by decide +kernel

/-! ### The commands: the examples of 42_commands.md R91 to R101 and 95_test_vectors.md P1, P3 -/

theorem test_assign_address :
    [([0x55] : List Byte), []].map (fun r => (after (exec (.assignAddress 5) (openBlock (replies r)))).map
      (fun t => (t.txFrame, t.resKind, t.ack, t.fault))) =
      [some ([0xE6, 0x01, 0xA0, 0x05, 0xFD], .bool, true, .noFault),
        some ([0xE6, 0x01, 0xA0, 0x05, 0xFD], .bool, false, .noFault)] := by decide +kernel

theorem test_assign_address_out_of_range :
    (after (exec (.assignAddress 255) (openBlock (failsAt 0)))).map
      (fun t => (t.finfo, t.resKind, t.calls)) = some (.validation 0xA0 255, .fault, []) := by decide +kernel

theorem test_set_pulse_per_turn :
    [([0x55] : List Byte), []].map (fun r => (after (exec (.setPulsePerTurn 200) (openBlock (replies r)))).map
      (fun t => (t.txFrame, t.resKind, t.ack, t.fault))) =
      [some ([0xE6, 0x01, 0xA2, 0xC8, 0xB1], .bool, true, .noFault),
        some ([0xE6, 0x01, 0xA2, 0xC8, 0xB1], .bool, false, .noFault)] := by decide +kernel

theorem test_set_pulse_per_turn_out_of_range :
    (after (exec (.setPulsePerTurn 256) (openBlock (failsAt 0)))).map
      (fun t => (t.finfo, t.resKind, t.calls)) = some (.validation 0xA2 256, .fault, []) := by decide +kernel

theorem test_set_speed :
    [([0x55] : List Byte), []].map (fun r => (after (exec (.setSpeed 100) (openBlock (replies r)))).map
      (fun t => (t.txFrame, t.resKind, t.ack, t.fault))) =
      [some ([0xE6, 0x01, 0xA3, 0x64, 0xC6], .bool, true, .noFault),
        some ([0xE6, 0x01, 0xA3, 0x64, 0xC6], .bool, false, .noFault)] := by decide +kernel

theorem test_set_speed_out_of_range :
    (after (exec (.setSpeed 251) (openBlock (failsAt 0)))).map
      (fun t => (t.finfo, t.resKind, t.calls)) = some (.validation 0xA3 251, .fault, []) := by decide +kernel

theorem test_set_max_speed :
    [([0x55] : List Byte), []].map (fun r => (after (exec (.setMaxSpeed 120) (openBlock (replies r)))).map
      (fun t => (t.txFrame, t.resKind, t.ack, t.fault))) =
      [some ([0xE6, 0x01, 0xA4, 0x78, 0xC5], .bool, true, .noFault),
        some ([0xE6, 0x01, 0xA4, 0x78, 0xC5], .bool, false, .noFault)] := by decide +kernel

theorem test_set_max_speed_out_of_range :
    (after (exec (.setMaxSpeed (-1000)) (openBlock (failsAt 0)))).map
      (fun t => (t.finfo, t.resKind, t.calls)) = some (.validation 0xA4 (-1000), .fault, []) := by decide +kernel

theorem test_set_acceleration :
    [([0x55] : List Byte), []].map (fun r => (after (exec (.setAcceleration 10) (openBlock (replies r)))).map
      (fun t => (t.txFrame, t.resKind, t.ack, t.fault))) =
      [some ([0xE6, 0x01, 0xA5, 0x0A, 0x25], .bool, true, .noFault),
        some ([0xE6, 0x01, 0xA5, 0x0A, 0x25], .bool, false, .noFault)] := by decide +kernel

theorem test_set_acceleration_out_of_range :
    (after (exec (.setAcceleration 0) (openBlock (failsAt 0)))).map
      (fun t => (t.finfo, t.resKind, t.calls)) = some (.validation 0xA5 0, .fault, []) := by decide +kernel

theorem test_set_slowdown :
    [([0x55] : List Byte), []].map (fun r => (after (exec (.setSlowdown 12) (openBlock (replies r)))).map
      (fun t => (t.txFrame, t.resKind, t.ack, t.fault))) =
      [some ([0xE6, 0x01, 0xA6, 0x0C, 0x00], .bool, true, .noFault),
        some ([0xE6, 0x01, 0xA6, 0x0C, 0x00], .bool, false, .noFault)] := by decide +kernel

theorem test_set_slowdown_out_of_range :
    (after (exec (.setSlowdown 25) (openBlock (failsAt 0)))).map
      (fun t => (t.finfo, t.resKind, t.calls)) = some (.validation 0xA6 25, .fault, []) := by decide +kernel

theorem test_set_direction :
    [([0x55] : List Byte), []].map (fun r => (after (exec (.setDirection 1) (openBlock (replies r)))).map
      (fun t => (t.txFrame, t.resKind, t.ack, t.fault))) =
      [some ([0xE6, 0x01, 0xA7, 0x01, 0x2D], .bool, true, .noFault),
        some ([0xE6, 0x01, 0xA7, 0x01, 0x2D], .bool, false, .noFault)] := by decide +kernel

theorem test_set_direction_out_of_range :
    (after (exec (.setDirection 2) (openBlock (failsAt 0)))).map
      (fun t => (t.finfo, t.resKind, t.calls)) = some (.validation 0xA7 2, .fault, []) := by decide +kernel

theorem test_start_move :
    [([0x55] : List Byte), []].map (fun r => (after (exec (.startMove) (openBlock (replies r)))).map
      (fun t => (t.txFrame, t.resKind, t.ack, t.fault))) =
      [some ([0xE6, 0x01, 0x51, 0x00, 0xDA], .bool, true, .noFault),
        some ([0xE6, 0x01, 0x51, 0x00, 0xDA], .bool, false, .noFault)] := by decide +kernel

theorem test_stop_move :
    [([0x55] : List Byte), []].map (fun r => (after (exec (.stopMove) (openBlock (replies r)))).map
      (fun t => (t.txFrame, t.resKind, t.ack, t.fault))) =
      [some ([0xE6, 0x01, 0x52, 0x00, 0xFD], .bool, true, .noFault),
        some ([0xE6, 0x01, 0x52, 0x00, 0xFD], .bool, false, .noFault)] := by decide +kernel

/-- 42_commands.md R92: `ACK` keeps its value, the reply is traced. -/
theorem test_release_address :
    (after (exec .releaseAddress (openBlock (replies [])))).map
      (fun t => (t.resKind, t.ack, t.trace)) =
      some (.none, false, [.send [0xE6, 0x01, 0xA1, 0x00, 0xD8], .recv []]) := by decide +kernel

/-- 42_commands.md R99. -/
theorem test_query_state :
    (after (exec .queryState (openBlock (replies statusReply)))).map
      (fun t => (t.txFrame, t.resKind, t.sw, t.valp)) =
      some ([0xE6, 0x01, 0x50, 0xEE], .status, ⟨true, false, true, true, 1282, 100⟩, false) := by
  decide +kernel

/-- 95_test_vectors.md P3 step 6: the fault comes after the record step. -/
theorem test_query_state_short :
    (after (exec .queryState (openBlock (replies [0x00, 0xB5, 0x02])))).map
      (fun t => (t.finfo, t.resKind, t.trace.length)) =
      some (.protocol .decode 3, .fault, 2) := by decide +kernel

/-- 70_reset_and_hazards.md R130, the example. -/
theorem test_construct :
    (after (exec (.construct [0x70] 1 none) { State.reset with draws := [⟨false, []⟩] })).map
      (fun t => (t.unit, t.isOpen, t.timeout, t.trace)) = some (0x01, true, 1, []) := by
  decide +kernel

theorem test_construct_fails :
    (after (exec (.construct [0x70] 1 none) { State.reset with draws := [⟨true, []⟩] })).map
      (fun t => (t.isOpen, t.finfo)) = some (false, .transport .openPort) := by decide +kernel

/-- 95_test_vectors.md S7: the first closes, the second does nothing. -/
theorem test_teardown :
    (after (exec .teardown (openBlock []))).map (fun t => (t.isOpen, t.calls)) =
      some (false, [.closePort]) ∧
    (after (exec .teardown State.reset)).map (·.calls) = some [] := by decide +kernel

/-! ### Witnesses: the hypotheses of the statements can be met -/

/-- Each clause of `StepRunsTheHostsNextOperation`. -/
theorem witness_step :
    (∃ s : State, s.requests = .call .crcClr :: []) ∧
    (∃ s : State, s.requests = .frame [0xE6, 0x01, 0x50, 0xEE] :: [] ∧
      decode [0xE6, 0x01, 0x50, 0xEE] = .ok (s.unit, .queryState)) ∧
    (∃ s : State, s.requests = .frame [0xE6, 0x01, 0x50, 0xEE] :: [] ∧
      decode [0xE6, 0x01, 0x50, 0xEE] = .ok (0x01, .queryState) ∧ 0x01 ≠ s.unit) ∧
    (∃ s : State, s.requests = .frame [] :: [] ∧ decode [] = .error .wrongLength) ∧
    (∃ s : State, s.requests = []) :=
  ⟨⟨{ State.reset with requests := [.call .crcClr] }, rfl⟩,
    ⟨{ openBlock [] with requests := [.frame [0xE6, 0x01, 0x50, 0xEE]] }, rfl, by decide +kernel⟩,
    ⟨{ State.reset with requests := [.frame [0xE6, 0x01, 0x50, 0xEE]] }, rfl, by decide +kernel⟩,
    ⟨{ State.reset with requests := [.frame []] }, rfl, by decide +kernel⟩,
    ⟨State.reset, rfl⟩⟩

/-- `EveryEncodedCommandDecodesToItself` at the bounds of the unit and of an operand. -/
theorem witness_encode :
    (0x00 : Byte) ≠ 0xFF ∧ (0xFE : Byte) ≠ 0xFF ∧
    (Instr.assignAddress 254).asCommand.isSome = true ∧
    (Instr.assignAddress 254).wellFormed = true ∧ (Instr.setAcceleration 1).wellFormed = true ∧
    Instr.queryState.asCommand.isSome = true ∧ Instr.queryState.wellFormed = true := by decide

/-- `EveryDecodedFrameIsItsCommandsEncoding` and `ParseRequestAndBuildFrameAreInverse`. -/
theorem witness_decode :
    decode [0xE6, 0xFE, 0xA0, 0xFE, 0x6C] = .ok (0xFE, .assignAddress 254) ∧
    parseRequest [0xE6, 0x01, 0x00, 0xFF] = some ⟨0x01, 0x00, none⟩ := by decide +kernel

/-- `FramesOfNoCommandAreRefusedByName`, clauses one to six, at the neighbours of the assigned
codes and at the first bytes outside each operand range. -/
theorem witness_refused_commands :
    ([0x00, 0x4F, 0x53, 0x9F, 0xA8, 0xFF] : List Byte).map Command.ofCode =
      [none, none, none, none, none, none] ∧
    (0xFE : Byte) ≠ 0xFF ∧ Command.stopMove ≠ .queryState ∧ (0x01 : Byte) ≠ 0x00 ∧
    Command.assignAddress.row.source = .operand 0 255 ∧ (255 : Int) ≤ ((0xFF : Byte).toNat : Int) ∧
    Command.setSpeed.row.source = .operand 0 251 ∧ (251 : Int) ≤ ((0xFB : Byte).toNat : Int) ∧
    Command.setAcceleration.row.source = .operand 1 25 ∧ ((0x00 : Byte).toNat : Int) < 1 ∧
    (25 : Int) ≤ ((0x19 : Byte).toNat : Int) ∧
    Command.setDirection.row.source = .operand 0 2 ∧ (2 : Int) ≤ ((0x02 : Byte).toNat : Int) := by
  decide

/-- Its clauses seven to nine, at the lengths beside 4 and 5. -/
theorem witness_refused_shapes :
    (([0xE6, 0x01, 0x50] : List Byte).length ≠ 4 ∧ ([0xE6, 0x01, 0x50] : List Byte).length ≠ 5) ∧
    ([0xE7, 0x01, 0x50, 0xEE] : List Byte).head? ≠ some 0xE6 ∧
    ([0xE6, 0x01, 0x50, 0xEF] : List Byte).head? = some 0xE6 ∧
    ([0xE6, 0x01, 0x50, 0xEF] : List Byte).getLast? ≠ some (Codec.checksum [0x01, 0x50]) := by
  decide +kernel

/-- The third clause of `CrcBitIsOneBitStep`. -/
theorem witness_crcBit : ({ State.reset with crc := 0x46 } : State).crc = 0x46 := rfl

/-- `ChecksumSeesTheLastByteInFull`: two inputs with one checksum. -/
theorem witness_checksum_last :
    Codec.checksum ([0x01, 0xA1] ++ [0x00]) = Codec.checksum ([0x00, 0xA0] ++ [0x00]) ∧
    Codec.checksum ([0x01] ++ [0x50]) = Codec.checksum ([0x01] ++ [0x50]) := by decide +kernel

/-- `AckTestIsTheNonEmptyTest` at `RXLEN` 0, 1 and 5. -/
theorem witness_ackTest :
    State.reset.rxLen.val = 0 ∧ 1 ≤ ({ State.reset with rxLen := 1 } : State).rxLen.val ∧
    1 ≤ ({ State.reset with rxLen := 5 } : State).rxLen.val := by decide

/-- A ready block whose exchange of a frame gets each length of reply that the statements tell
apart: 0, 1, 4, 5 (`ExchangeRunsItsFiveSteps`, `ProtocolErrorComesFromShortStatusReplies`,
`QueryStateReportsTheStatusWord`, `ReleaseAddressReportsNothing`, `MotionCommandsComplete`,
`ShortRepliesOfSimpleCommandsAreNoFaults`). -/
theorem witness_exchange :
    (openBlock (replies [])).ready ∧
    ∀ r ∈ ([[], [0x00], [0x00, 0xB5, 0x02, 0x64], statusReply] : List (List Byte)),
      (openBlock (replies r)).exchangeReply (Codec.buildFrame 0x01 0x50 none) = some r ∧
      (openBlock (replies r)).exchangeReply (Codec.buildFrame 0x01 0xA1 (some 0x00)) = some r ∧
      (openBlock (replies r)).exchangeReply (Codec.buildFrame 0x01 0x51 (some 0x00)) = some r ∧
      (openBlock (replies r)).exchangeReply (Codec.buildFrame 0x01 0x52 (some 0x00)) = some r := by
  decide +kernel

/-- The seven operand commands at both ends of their ranges, with an empty and a full reply
(`OperandCommandsComplete`, `ShortRepliesOfSimpleCommandsAreNoFaults`). -/
theorem witness_operands :
    (openBlock (replies [])).ready ∧
    ∀ p ∈ ([(0xA0, 0, 255), (0xA2, 0, 256), (0xA3, 0, 251), (0xA4, 0, 251), (0xA5, 1, 25),
        (0xA6, 1, 25), (0xA7, 0, 2)] : List (Byte × Int × Int)),
      (∀ v ∈ [p.2.1, p.2.2 - 1], p.2.1 ≤ v ∧ v < p.2.2 ∧
        ∀ r ∈ ([[], statusReply] : List (List Byte)),
          (openBlock (replies r)).exchangeReply
            (Codec.buildFrame 0x01 p.1 (some (BitVec.ofInt 8 v))) = some r) := by
  decide +kernel

/-- `IllegalOperandsRaiseValidationError`: the neighbours of each range, and a fault that is
raised. -/
theorem witness_validation :
    (openBlock []).ready ∧ ((-1 : Int) < 0 ∨ (255 : Int) ≤ -1) ∧ ((255 : Int) < 0 ∨ (255 : Int) ≤ 255) ∧
    ((256 : Int) < 0 ∨ (256 : Int) ≤ 256) ∧ ((251 : Int) < 0 ∨ (251 : Int) ≤ 251) ∧
    ((0 : Int) < 1 ∨ (25 : Int) ≤ 0) ∧ ((25 : Int) < 1 ∨ (25 : Int) ≤ 25) ∧
    ((2 : Int) < 0 ∨ (2 : Int) ≤ 2) ∧
    (∃ t, exec (.setSpeed 251) (openBlock []) = .next t ∧ t.fault = .validation) :=
  ⟨by decide, by decide, by decide, by decide, by decide, by decide, by decide, by decide,
    ⟨_, rfl, by decide +kernel⟩⟩

/-- The last clause of `ProtocolErrorComesFromShortStatusReplies`. -/
theorem witness_protocol :
    ([0x00, 0xB5, 0x02, 0x64] : List Byte).length < 5 ∧
    (∃ t, exec (.decodeStatus []) State.reset = .next t ∧ t.fault = .protocol) :=
  ⟨by decide, _, rfl, rfl⟩

/-- A ready block whose exchange fails at each primitive (`ExchangeStopsAtAFailingPrimitive`,
`CommandsStopAtAFailingPrimitive`, `ReleaseAddressReportsNothing`), for a frame of each command. -/
theorem witness_failures :
    ∀ k ∈ [0, 1, 2, 3], (openBlock (failsAt k)).ready ∧
      ∀ c ∈ Command.all, (openBlock (failsAt k)).firstFailure (commandFrame 0x01 c 1) = some k := by
  decide +kernel

/-- `CommandsNeedAnOpenIdleBlock`. -/
theorem witness_not_ready :
    State.reset.isOpen = false ∧
    ({ openBlock [] with phase := .read } : State).isOpen = true ∧
    ({ openBlock [] with phase := .read } : State).phase ≠ .idle := by decide

/-- `CommandResultsDependOnUnitOperandAndReply`: two ready blocks with different histories, one
unit, one reply. -/
theorem witness_two_histories :
    ((Command.setSpeed).toInstr 250).wellFormed = true ∧
    (openBlock (replies [0x55])).ready ∧
    ({ openBlock (replies [0x55]) with ack := true, crc := 0xC6, trace := [.send [], .recv []] } :
      State).ready ∧
    (openBlock (replies [0x55])).exchangeReply (commandFrame 0x01 .setSpeed 250) = some [0x55] ∧
    ({ openBlock (replies [0x55]) with ack := true, crc := 0xC6, trace := [.send [], .recv []] } :
      State).exchangeReply (commandFrame 0x01 .setSpeed 250) = some [0x55] := by decide +kernel

/-- `ConstructOpensTheTransport` and the clauses of `ConstructFailsOrIsRefused`: units 0, 254,
-1 and 255, a transport that opens and one that does not, a constructed block. -/
theorem witness_construct :
    State.reset.constructed = false ∧ (openBlock []).constructed = true ∧
    ((0 : Int) ≤ 0 ∧ (0 : Int) < 255) ∧ ((0 : Int) ≤ 254 ∧ (254 : Int) < 255) ∧
    ((-1 : Int) < 0 ∨ (255 : Int) ≤ -1) ∧ ((255 : Int) < 0 ∨ (255 : Int) ≤ 255) ∧
    (({ State.reset with draws := [⟨false, []⟩] } : State).answer (.openPort [] 1)).failed = false ∧
    (({ State.reset with draws := [⟨true, []⟩] } : State).answer (.openPort [] 1)).failed = true := by
  decide +kernel

/-- `TeardownClosesTheTransportOnce`, an open and a closed block and a teardown that runs. -/
theorem witness_teardown :
    (openBlock []).isOpen = true ∧ State.reset.isOpen = false ∧
    (∃ t, exec .teardown (openBlock []) = .next t) :=
  ⟨rfl, rfl, _, rfl⟩

/-- `NoOperationWritesTheConfiguration` and `EveryOperationsTransportCalls`: a constructed block and
a command on a block whose flag is not set, both answering a next state. -/
theorem witness_configuration :
    (∃ t, exec .crcClr (openBlock []) = .next t ∧ (openBlock []).constructed = true) ∧
    (∃ s t, exec .queryState s = .next t ∧ s.constructed = false ∧
      Instr.queryState.asCommand.isSome = true) ∧
    (∃ t, exec (.construct [] 0 none) { State.reset with draws := [⟨false, []⟩] } = .next t) ∧
    (∃ t, exec .teardown (openBlock []) = .next t) ∧
    (∃ t, exec (.exchange 0x50 none) (openBlock []) = .next t) :=
  ⟨⟨_, rfl, rfl⟩, ⟨{ openBlock [] with constructed := false }, _, rfl, rfl, rfl⟩, ⟨_, rfl⟩,
    ⟨_, rfl⟩, ⟨_, rfl⟩⟩

/-- `AssignAddressDoesNotMoveTheUnit`: `assign_address(5)` is acknowledged, then a query runs. -/
theorem witness_assign :
    ∃ s t u : State, s.ready ∧
      s.exchangeReply (Codec.buildFrame s.unit 0xA0 (some (BitVec.ofInt 8 5))) = some [0x00] ∧
      ([0x00] : List Byte) ≠ [] ∧ exec (.assignAddress 5) s = .next t ∧
      t.exchangeReply (Codec.buildFrame s.unit 0x50 none) = some [] ∧ exec .queryState t = .next u :=
  ⟨openBlock (replies [0x00] ++ replies []), _, _, by decide, by decide +kernel, by decide, rfl,
    by decide +kernel, rfl⟩

/-- `EveryOperationEndsWithTheBlockIdle`: `stop_move`, and an `EXCHANGE` of an assigned code, on a
ready constructed block. -/
theorem witness_ends :
    (openBlock []).ready ∧ (openBlock []).constructed = true ∧
    (∀ port unit timeout, Instr.stopMove ≠ .construct port unit timeout) ∧
    (∀ code value, Instr.stopMove ≠ .exchange code value) ∧
    (∃ c : Command, c.row.code = 0xA7) :=
  ⟨by decide, rfl, by simp, by simp, .setDirection, rfl⟩

/-- `ExchangeRunsItsFiveSteps` and `ExchangeStopsAtAFailingPrimitive`: each code without a VALUE and
with the largest one, a reply, and a failure of each primitive. -/
theorem witness_exchange_codes :
    ∀ value ∈ [none, some (0xFF : Byte)], ∀ c ∈ Command.all,
      (openBlock (replies statusReply)).exchangeReply (Codec.buildFrame 0x01 c.row.code value) =
        some statusReply ∧
      ∀ k ∈ [0, 1, 2, 3],
        (openBlock (failsAt k)).firstFailure (Codec.buildFrame 0x01 c.row.code value) = some k := by
  decide +kernel

/-- `ExchangeRunsWithTheElevenCodesOnly`: a ready block, and the unassigned neighbours of the codes. -/
theorem witness_exchange_refused :
    (openBlock []).ready ∧
    (∀ code ∈ ([0x00, 0x4F, 0x53, 0x9F, 0xA8, 0xFF] : List Byte), ∀ c ∈ Command.all,
      c.row.code ≠ code) ∧
    ∀ c : Command, c ∈ Command.all := by
  refine ⟨by decide, by decide, ?_⟩
  intro c
  cases c <;> decide

/-- `EveryWrittenFrameCarriesAnAssignedCode`: `query_state`, which is no `EXCHANGE`, writes its
frame. -/
theorem witness_written_frame :
    (∃ t, exec .queryState (openBlock (replies statusReply)) = .next t ∧
      t.calls = (openBlock (replies statusReply)).calls ++ exchangeCalls [0xE6, 0x01, 0x50, 0xEE] ∧
      PortCall.write [0xE6, 0x01, 0x50, 0xEE] ∈ exchangeCalls [0xE6, 0x01, 0x50, 0xEE]) ∧
    ∀ code value, Instr.queryState ≠ .exchange code value :=
  ⟨⟨_, rfl, by decide +kernel, by decide⟩, by simp⟩

/-- `EveryStepKeepsTheBlockSane`: a sane open block with a trace, whose next request runs. -/
theorem witness_sane :
    ∃ s t : State, s.Sane ∧ s.isOpen = true ∧ s.trace ≠ [] ∧ step s = .next t :=
  ⟨{ openBlock [] with
      trace := [.send [0xE6, 0x01, 0x50, 0xEE], .recv statusReply],
      requests := [.call .queryState] }, _,
    ⟨rfl, by decide, by decide, by decide, by decide, by decide +kernel, by decide⟩, rfl, by decide,
    rfl⟩

end Sys2Proof.Tests
end

/-! The step of the machine, case by case (00_scope.md R9): what operation a request
stands for, and what a step does with it. -/

namespace Sys2Proof.Machine

/-! ### The operation of a request -/

theorem operationOf_call (unit : Byte) (i : Instr) : operationOf unit (.call i) = .ok i := rfl

theorem operationOf_frame_own_unit {unit : Byte} {bytes : List Byte} {i : Instr}
    (hd : decode bytes = .ok (unit, i)) : operationOf unit (.frame bytes) = .ok i := by
  simp only [operationOf, hd, if_true]

theorem operationOf_frame_other_unit {unit u : Byte} {bytes : List Byte} {i : Instr}
    (hd : decode bytes = .ok (u, i)) (hu : u ≠ unit) :
    operationOf unit (.frame bytes) = .error .frameForOtherUnit := by
  simp only [operationOf, hd, if_neg hu]

theorem operationOf_frame_undecodable {unit : Byte} {bytes : List Byte} {e : DecodeError}
    (hd : decode bytes = .error e) :
    operationOf unit (.frame bytes) = .error (.undecodable e) := by
  simp only [operationOf, hd]

/-! ### The step by the first request -/

theorem step_no_request {s : State} (hr : s.requests = []) : step s = .next s := by
  simp only [step, hr]

theorem step_runs_operation {s : State} {r : Request} {rest : List Request} {i : Instr}
    (hr : s.requests = r :: rest) (ho : operationOf s.unit r = .ok i) :
    step s = exec i { s with requests := rest } := by
  simp only [step, hr, ho]

theorem step_refuses_request {s : State} {r : Request} {rest : List Request} {why : Refusal}
    (hr : s.requests = r :: rest) (ho : operationOf s.unit r = .error why) :
    step s = .refused why := by
  simp only [step, hr, ho]

end Sys2Proof.Machine

namespace Sys2Proof.Proofs

open Sys2Proof Sys2Proof.Machine

/-- Settles O1: each clause names the operation of the first request, or why it has none, and the
step follows it. -/
theorem stepRunsTheHostsNextOperation : Obligations.StepRunsTheHostsNextOperation := by
  intro s rest
  refine ⟨?call, ?ownUnit, ?otherUnit, ?undecodable, step_no_request⟩
  case call =>
    intro i hr
    exact step_runs_operation hr (operationOf_call s.unit i)
  case ownUnit =>
    intro bytes i hr hd
    exact step_runs_operation hr (operationOf_frame_own_unit hd)
  case otherUnit =>
    intro bytes u i hr hd hu
    exact step_refuses_request hr (operationOf_frame_other_unit hd hu)
  case undecodable =>
    intro bytes e hr hd
    exact step_refuses_request hr (operationOf_frame_undecodable hd)

end Sys2Proof.Proofs

/-! What an operation leaves of the registers that 10_state.md speaks of: the configuration
(R10), `OPEN` (R11), the report of a fault (R17), `PHASE` (R19) and `TRACE` (R21). Every operation but
`CONSTRUCT` and `TEARDOWN` keeps to one relation, `State.Continues`; the statements about the
configuration and about the sane block read it. -/

namespace Sys2Proof.Machine

/-! ### Histories -/

theorem isRequestTo_buildFrame (unit code : Byte) (value : Option Byte) :
    isRequestTo unit (Codec.buildFrame unit code value) = true := by
  cases value with
  | none => simp [Codec.buildFrame_none, isRequestTo, parseRequest, Codec.startByte]
  | some w => simp [Codec.buildFrame_some, isRequestTo, parseRequest, Codec.startByte]

/-- A paired trace followed by one exchange with the unit is paired. -/
theorem pairedTrace_append_exchange {unit : Byte} {events : List Event} {reply : List Byte}
    (code : Byte) (value : Option Byte) (hp : pairedTrace unit events = true)
    (hr : reply.length ≤ 5) :
    pairedTrace unit
      (events ++ [.send (Codec.buildFrame unit code value), .recv reply]) = true := by
  induction events using pairedTrace.induct with
  | case1 => simp [pairedTrace, isRequestTo_buildFrame, hr]
  | case2 frame reply' rest ih =>
    simp only [pairedTrace, Bool.and_eq_true] at hp
    obtain ⟨hpair, hrest⟩ := hp
    simp only [List.cons_append, pairedTrace, hpair, ih hrest, Bool.and_true]
  | case3 events hne hnp => simp [pairedTrace] at hp

/-- Calls other than `PortClose` leave the count of closings. -/
theorem closeCount_append_of_not_mem {calls cs : List PortCall} (h : PortCall.closePort ∉ cs) :
    closeCount (calls ++ cs) = closeCount calls := by
  rw [closeCount, List.count_append, List.count_eq_zero.mpr h, Nat.add_zero, closeCount]

theorem closePort_not_mem_exchangeCalls (frame : List Byte) :
    PortCall.closePort ∉ exchangeCalls frame := by
  simp [exchangeCalls]

/-! ### The calls and the fault information of a failed exchange -/

theorem State.exchangeFailed_calls (s : State) (code : Byte) (value : Option Byte) (k : Nat) :
    (s.exchangeFailed code value k).calls =
      s.calls ++ (exchangeCalls (Codec.buildFrame s.unit code value)).take (k + 1) := by
  unfold State.exchangeFailed; split <;> rfl

theorem State.exchangeFailed_finfo_faultCode (s : State) (code : Byte) (value : Option Byte)
    (k : Nat) : (s.exchangeFailed code value k).finfo.faultCode = .transport := by
  unfold State.exchangeFailed; split <;> rfl

/-! ### What an operation other than `CONSTRUCT` and `TEARDOWN` may do -/

/-- `t` may follow `s` by an operation that neither constructs nor tears down: the configuration and
the block's standing stay, `PHASE` stays or becomes `IDLE`, a fault stays, is cleared or is taken with
its own information, `TRACE` stays or an open block adds one exchange with its unit, and the transport
is not closed. -/
structure State.Continues (s t : State) : Prop where
  unit_eq : t.unit = s.unit
  portId_eq : t.portId = s.portId
  timeout_eq : t.timeout = s.timeout
  isOpen_eq : t.isOpen = s.isOpen
  constructed_eq : t.constructed = s.constructed
  phase : t.phase = s.phase ∨ t.phase = .idle
  fault : (t.fault = s.fault ∧ t.resKind = s.resKind ∧ t.finfo = s.finfo) ∨ t.fault = .noFault ∨
    (t.resKind = .fault ∧ t.finfo.faultCode = t.fault)
  trace : t.trace = s.trace ∨ s.isOpen = true ∧ ∃ code value reply, reply.length ≤ 5 ∧
    t.trace = s.trace ++ [.send (Codec.buildFrame s.unit code value), .recv reply]
  closings : closeCount t.calls = closeCount s.calls

/-- A change of the CRC unit's registers, `SW`, `ACK` and the request list alone. -/
theorem State.Continues.of_working {s t : State}
    (h : t = { s with crc := t.crc, biti := t.biti, byteIndex := t.byteIndex, sw := t.sw,
                      ack := t.ack, requests := t.requests }) : s.Continues t := by
  rw [h]
  exact ⟨rfl, rfl, rfl, rfl, rfl, .inl rfl, .inl ⟨rfl, rfl, rfl⟩, .inl rfl, rfl⟩

theorem State.Continues.built (s : State) (unit code : Byte) (value : Option Byte) :
    s.Continues (s.built unit code value) :=
  ⟨rfl, rfl, rfl, rfl, rfl, .inl rfl, .inl ⟨rfl, rfl, rfl⟩, .inl rfl, rfl⟩

theorem State.Continues.raise (s : State) (info : FaultInfo) : s.Continues (s.raise info) :=
  ⟨rfl, rfl, rfl, rfl, rfl, .inr rfl, .inr (.inr ⟨rfl, rfl⟩), .inl rfl, rfl⟩

theorem State.Continues.exchangeFailed (s : State) (code : Byte) (value : Option Byte) (k : Nat) :
    s.Continues (s.exchangeFailed code value k) where
  unit_eq := s.exchangeFailed_unit code value k
  portId_eq := s.exchangeFailed_portId code value k
  timeout_eq := s.exchangeFailed_timeout code value k
  isOpen_eq := s.exchangeFailed_isOpen code value k
  constructed_eq := s.exchangeFailed_constructed code value k
  phase := .inr (s.exchangeFailed_phase code value k)
  fault := .inr (.inr ⟨s.exchangeFailed_resKind code value k, by
    rw [s.exchangeFailed_finfo_faultCode, s.exchangeFailed_fault]⟩)
  trace := .inl (s.exchangeFailed_trace code value k)
  closings := by
    rw [s.exchangeFailed_calls]
    exact closeCount_append_of_not_mem fun h =>
      closePort_not_mem_exchangeCalls _ (List.mem_of_mem_take h)

theorem State.Continues.exchanged {s : State} (ho : s.isOpen = true) (code : Byte)
    (value : Option Byte) {reply : List Byte} (hr : reply.length ≤ 5) :
    s.Continues (s.exchanged code value reply) where
  unit_eq := rfl
  portId_eq := rfl
  timeout_eq := rfl
  isOpen_eq := rfl
  constructed_eq := rfl
  phase := .inl rfl
  fault := .inl ⟨rfl, rfl, rfl⟩
  trace := .inr ⟨ho, code, value, reply, hr, rfl⟩
  closings := closeCount_append_of_not_mem (closePort_not_mem_exchangeCalls _)

/-- What follows the start of a command follows the state before it: the start clears `FAULT` and
latches the operands. -/
theorem State.Continues.of_commandStarted {s t : State} {code : Byte} {value : Option Byte}
    (h : (s.commandStarted code value).Continues t) : s.Continues t :=
  { h with
    fault := by
      rcases h.fault with ⟨hf, _⟩ | hf
      · exact .inr (.inl hf)
      · exact .inr hf }

/-- The interpretation of a reply reports a result without a fault, or takes `ProtocolError`. -/
theorem State.Continues.interpretReply {s u : State} (h : s.Continues u) (hp : u.phase = .idle)
    (hf : u.fault = .noFault) (result : CommandResult) :
    s.Continues (interpretReply result (u.atPhase .interpret)) := by
  cases result with
  | bool => rw [interpretReply_bool hp]; exact { h with fault := .inr (.inl hf) }
  | none => rw [interpretReply_none hp]; exact { h with fault := .inr (.inl hf) }
  | status =>
    rw [interpretReply_status hp]
    cases decodeStatus u.rxReply with
    | none => exact { h with fault := .inr (.inr ⟨rfl, rfl⟩) }
    | some sw => exact { h with fault := .inr (.inl hf) }

/-! ### Every operation continues, constructs or tears down -/

theorem commandBody_continues (row : CommandRow) (v : Int) {s : State} (hs : s.ready) :
    s.Continues (commandBody row v s) := by
  obtain ⟨ho, hp⟩ := hs
  rcases commandBody_cases row v s with ⟨_, he⟩ | ⟨_, k, _, _, he⟩ | ⟨_, reply, hr, _, he⟩ <;> rw [he]
  · exact .raise s _
  · exact .of_commandStarted (.exchangeFailed _ _ _ k)
  · have hx := State.Continues.exchanged
      (s := s.commandStarted row.code (row.source.valueByte v)) ho row.code
      (row.source.valueByte v) hr
    exact .of_commandStarted (hx.interpretReply hp rfl _)

theorem exec_command_continues {i : Instr} {c : Command} {v : Int} {s t : State}
    (hc : i.asCommand = some (c, v)) (h : exec i s = .next t) : s.Continues t := by
  rw [exec_of_asCommand hc] at h
  rcases whenReady_cases s (commandBody c.row v) with ⟨_, he⟩ | ⟨_, _, he⟩ | ⟨hs, he⟩ <;>
    cases he.symm.trans h
  exact commandBody_continues c.row v hs

theorem execExchange_continues {command : Byte} {value : Option Byte} {s t : State}
    (h : execExchange command value s = .next t) : s.Continues t := by
  rcases execExchange_cases command value s with ⟨_, he⟩ | ⟨_, _, he⟩ | ⟨_, _, he⟩ |
    ⟨_, _, k, _, _, he⟩ | ⟨hs, _, reply, hr, _, he⟩ <;> cases he.symm.trans h
  · exact .exchangeFailed s command value k
  · exact .exchanged hs.1 command value hr

theorem execDecodeStatus_continues {reply : List Byte} {s t : State}
    (h : execDecodeStatus reply s = .next t) : s.Continues t := by
  unfold execDecodeStatus at h
  rcases statusDecode_cases reply s with ⟨sw, _, he⟩ | ⟨_, he⟩ <;> rw [he] at h <;> cases h
  · exact .of_working rfl
  · exact .raise s _

/-- What an operation that answers a next state was: `CONSTRUCT`, `TEARDOWN`, or one that continues. -/
theorem exec_next_cases {i : Instr} {s t : State} (h : exec i s = .next t) :
    (∃ port unit timeout, i = .construct port unit timeout ∧
      execConstruct port unit timeout s = .next t) ∨
    (i = .teardown ∧ execTeardown s = .next t) ∨ s.Continues t := by
  cases i with
  | construct port unit timeout => exact .inl ⟨port, unit, timeout, rfl, h⟩
  | teardown => exact .inr (.inl ⟨rfl, h⟩)
  | crcClr => cases h; exact .inr (.inr (.of_working rfl))
  | crcBit b pos => cases h; exact .inr (.inr (.of_working rfl))
  | crcByte b => cases h; rw [crcByteAlone_eq]; exact .inr (.inr (.of_working rfl))
  | checksum bytes => cases h; rw [crcChecksum_eq]; exact .inr (.inr (.of_working rfl))
  | buildFrame unit command value =>
    cases h; rw [frameBuild_eq]; exact .inr (.inr (.built s unit command value))
  | ackTest => cases h; exact .inr (.inr (.of_working rfl))
  | decodeStatus reply => exact .inr (.inr (execDecodeStatus_continues h))
  | exchange command value => exact .inr (.inr (execExchange_continues h))
  | assignAddress | releaseAddress | setPulsePerTurn | setSpeed | setMaxSpeed | setAcceleration
  | setSlowdown | setDirection | queryState | startMove | stopMove =>
    exact .inr (.inr (exec_command_continues rfl h))

/-! ### What keeps the block sane -/

theorem ofInt_ne_0xFF_of_unitInRange {unit : Int} (h : unitInRange unit = true) :
    BitVec.ofInt 8 unit ≠ 0xFF := by
  simp only [unitInRange, Bool.and_eq_true, decide_eq_true_eq] at h
  intro he
  have h255 : (BitVec.ofInt 8 unit).toNat = 255 := by rw [he]; rfl
  rw [BitVec.toNat_ofInt] at h255
  omega

theorem State.Sane.closed_before_construction {s : State} (hs : s.Sane)
    (hc : s.constructed = false) : s.isOpen = false := by
  cases ho : s.isOpen with
  | false => rfl
  | true => exact absurd (hs.open_constructed ho) (by simp [hc])

theorem State.Sane.of_continues {s t : State} (hs : s.Sane) (h : s.Continues t) : t.Sane where
  idle := h.phase.elim (fun hp => hp.trans hs.idle) id
  open_constructed := by rw [h.isOpen_eq, h.constructed_eq]; exact hs.open_constructed
  unit_legal := by rw [h.constructed_eq, h.unit_eq]; exact hs.unit_legal
  fault_reported := by
    intro hne
    rcases h.fault with ⟨hf, hk, hi⟩ | hf | hf
    · rw [hk, hi, hf]; exact hs.fault_reported (hf ▸ hne)
    · exact absurd hf hne
    · exact hf
  no_trace_before := by
    intro hc
    rw [h.constructed_eq] at hc
    rcases h.trace with ht | ⟨ho, _⟩
    · rw [ht]; exact hs.no_trace_before hc
    · simp [hs.closed_before_construction hc] at ho
  trace_paired := by
    rw [h.unit_eq]
    rcases h.trace with ht | ⟨_, code, value, reply, hr, ht⟩ <;> rw [ht]
    · exact hs.trace_paired
    · exact pairedTrace_append_exchange code value hs.trace_paired hr
  closed_once := by rw [h.closings, h.constructed_eq, h.isOpen_eq]; exact hs.closed_once

theorem State.Sane.not_closed_before_construction {s : State} (hs : s.Sane)
    (hc : s.constructed = false) : closeCount s.calls = 0 := by
  simpa [hc] using hs.closed_once

/-- `PortOpen` of a first construction leaves a transport that was never closed. -/
theorem State.Sane.not_closed_after_openPort {s : State} (hs : s.Sane) (hc : s.constructed = false)
    (port : PortId) (timeout : Duration) :
    closeCount (s.calls ++ [.openPort port timeout]) = 0 := by
  rw [closeCount_append_of_not_mem (by simp), hs.not_closed_before_construction hc]

/-- A construction that fails to open leaves a block that is not constructed, with the fault
reported; one that succeeds leaves an open block with a legal unit and an empty `TRACE`. -/
theorem execConstruct_keeps_sane {port : PortId} {unit : Int} {timeout : Option Duration}
    {s t : State} (hs : s.Sane) (h : execConstruct port unit timeout s = .next t) : t.Sane := by
  rcases execConstruct_cases port unit timeout s with ⟨_, he⟩ | ⟨_, _, he⟩ | ⟨hc, _, _, he⟩ |
    ⟨hc, hu, _, he⟩ <;> cases he.symm.trans h
  · exact {
      idle := rfl
      open_constructed := hs.open_constructed
      unit_legal := fun hct => absurd (hc.symm.trans hct) (by decide)
      fault_reported := fun _ => ⟨rfl, rfl⟩
      no_trace_before := hs.no_trace_before
      trace_paired := congrArg (pairedTrace _) (hs.no_trace_before hc)
      closed_once := (hs.not_closed_after_openPort hc _ _).trans
        (if_neg fun hct => absurd (hc.symm.trans hct.1) (by decide)).symm }
  · exact {
      idle := rfl
      open_constructed := fun _ => rfl
      unit_legal := fun _ => ofInt_ne_0xFF_of_unitInRange hu
      fault_reported := fun hne => absurd rfl hne
      no_trace_before := fun _ => rfl
      trace_paired := rfl
      closed_once := hs.not_closed_after_openPort hc _ _ }

/-- A teardown of an open block closes the transport for the first time. -/
theorem execTeardown_keeps_sane {s t : State} (hs : s.Sane) (h : execTeardown s = .next t) :
    t.Sane := by
  rcases execTeardown_cases s with ⟨ho, he⟩ | ⟨_, he⟩ <;> cases he.symm.trans h
  · have hfirst : closeCount s.calls = 0 := by simpa [ho] using hs.closed_once
    exact { hs with
      open_constructed := fun hopen => absurd hopen Bool.false_ne_true
      closed_once := by
        rw [closeCount, List.count_append, ← closeCount, hfirst]
        simp [hs.open_constructed ho] }
  · exact hs

theorem exec_keeps_sane {i : Instr} {s t : State} (hs : s.Sane) (h : exec i s = .next t) :
    t.Sane := by
  rcases exec_next_cases h with ⟨_, _, _, _, hc⟩ | ⟨_, ht⟩ | hc
  · exact execConstruct_keeps_sane hs hc
  · exact execTeardown_keeps_sane hs ht
  · exact hs.of_continues hc

end Sys2Proof.Machine

namespace Sys2Proof.Proofs

open Sys2Proof Sys2Proof.Machine

/-- Settles O37: taking the request off the list keeps the block sane, and so does the operation
that the request stands for. -/
theorem everyStepKeepsTheBlockSane : Obligations.EveryStepKeepsTheBlockSane := by
  intro s t hs h
  rcases step_next h with ⟨_, rfl⟩ | ⟨_, rest, i, _, _, he⟩
  · exact hs
  · have hrest : s.Continues { s with requests := rest } := .of_working rfl
    exact exec_keeps_sane (hs.of_continues hrest) he

/-- Settles O33: of the two operations that do not continue, `CONSTRUCT` is no command and is refused
on a constructed block, and `TEARDOWN` leaves the configuration. -/
theorem noOperationWritesTheConfiguration : Obligations.NoOperationWritesTheConfiguration := by
  intro i s t h hcond
  rcases exec_next_cases h with ⟨port, unit, timeout, rfl, hx⟩ | ⟨_, hx⟩ | hc
  · have hcons : s.constructed = true := hcond.resolve_right (by simp [Instr.asCommand])
    rw [execConstruct, if_pos hcons] at hx
    cases hx
  · rcases execTeardown_cases s with ⟨_, he⟩ | ⟨_, he⟩ <;> cases he.symm.trans hx <;>
      exact ⟨rfl, rfl, rfl⟩
  · exact ⟨hc.unit_eq, hc.portId_eq, hc.timeout_eq⟩

/-- Settles O38: the reset block is closed and not constructed, with no fault, no trace and no
call. -/
theorem theResetBlockIsSane : Obligations.TheResetBlockIsSane where
  idle := rfl
  open_constructed := by decide
  unit_legal := by decide
  fault_reported := fun hne => absurd rfl hne
  no_trace_before := fun _ => rfl
  trace_paired := rfl
  closed_once := rfl

/-- Settles O39: each of the five values stands in the definition of the reset state. -/
theorem resetLeavesTheStatedValues : Obligations.ResetLeavesTheStatedValues :=
  ⟨rfl, rfl, rfl, rfl, rfl⟩

end Sys2Proof.Proofs

/-! What an operation asks of the transport (20_memory.md R31, R38; 41_framer.md R83): the calls it
adds to the history, for each operation that answers a next state. -/

namespace Sys2Proof.Machine

/-! ### The calls of an exchange and of a command -/

theorem State.exchanged_calls (s : State) (code : Byte) (value : Option Byte) (reply : List Byte) :
    (s.exchanged code value reply).calls =
      s.calls ++ exchangeCalls (Codec.buildFrame s.unit code value) := rfl

/-- The interpretation of a reply asks nothing of the transport. -/
theorem interpretReply_calls (result : CommandResult) (s : State) :
    (interpretReply result s).calls = s.calls := by
  cases result with
  | bool => rfl
  | none => rfl
  | status =>
    simp only [interpretReply]
    rcases statusDecode_cases s.rxReply s with ⟨sw, _, he⟩ | ⟨_, he⟩ <;> rw [he] <;> rfl

/-- `EXCHANGE` that fails makes its calls up to the failing one; one that completes makes all. -/
theorem execExchange_calls {command : Byte} {value : Option Byte} {s t : State}
    (h : execExchange command value s = .next t) :
    ∃ n, t.calls = s.calls ++ (exchangeCalls (Codec.buildFrame s.unit command value)).take n := by
  rcases execExchange_cases command value s with ⟨_, he⟩ | ⟨_, _, he⟩ | ⟨_, _, he⟩ |
    ⟨_, _, k, _, _, he⟩ | ⟨_, _, reply, _, _, he⟩ <;> cases he.symm.trans h
  · exact ⟨k + 1, s.exchangeFailed_calls command value k⟩
  · exact ⟨4, s.exchanged_calls command value reply⟩

/-- A command makes no call before its operand is found legal, and then those of its exchange. -/
theorem commandBody_calls (row : CommandRow) (v : Int) (s : State) :
    ∃ n, (commandBody row v s).calls = s.calls ++
      (exchangeCalls (Codec.buildFrame s.unit row.code (row.source.valueByte v))).take n := by
  rcases commandBody_cases row v s with ⟨_, he⟩ | ⟨_, k, _, _, he⟩ | ⟨_, reply, _, _, he⟩ <;> rw [he]
  · exact ⟨0, (List.append_nil _).symm⟩
  · exact ⟨k + 1, State.exchangeFailed_calls _ _ _ k⟩
  · exact ⟨4, by rw [interpretReply_calls]; rfl⟩

theorem runCommand_calls {c : Command} {v : Int} {s t : State} (h : runCommand c v s = .next t) :
    ∃ n, t.calls = s.calls ++ (exchangeCalls
      (Codec.buildFrame s.unit c.row.code (c.row.source.valueByte v))).take n := by
  rcases whenReady_cases s (commandBody c.row v) with ⟨_, he⟩ | ⟨_, _, he⟩ | ⟨_, he⟩ <;>
    cases he.symm.trans h
  exact commandBody_calls c.row v s

/-! ### The calls of the other operations -/

theorem execDecodeStatus_calls {reply : List Byte} {s t : State}
    (h : execDecodeStatus reply s = .next t) : t.calls = s.calls := by
  unfold execDecodeStatus at h
  rcases statusDecode_cases reply s with ⟨sw, _, he⟩ | ⟨_, he⟩ <;> rw [he] at h <;> cases h <;> rfl

/-- A construction that answers a next state has called `PortOpen`, whether it failed or not. -/
theorem execConstruct_calls {port : PortId} {unit : Int} {timeout : Option Duration} {s t : State}
    (h : execConstruct port unit timeout s = .next t) :
    t.calls = s.calls ++ [.openPort port (timeout.getD 1)] := by
  rcases execConstruct_cases port unit timeout s with ⟨_, he⟩ | ⟨_, _, he⟩ | ⟨_, _, _, he⟩ |
    ⟨_, _, _, he⟩ <;> cases he.symm.trans h <;> rfl

theorem execTeardown_calls {s t : State} (h : execTeardown s = .next t) :
    t.calls = s.calls ++ [.closePort] ∨ t.calls = s.calls := by
  rcases execTeardown_cases s with ⟨_, he⟩ | ⟨_, he⟩ <;> cases he.symm.trans h
  · exact .inl rfl
  · exact .inr rfl

/-! ### What an operation other than `CONSTRUCT`, `TEARDOWN` and `EXCHANGE` may ask -/

/-- The calls `cs` are a first part of the exchange of the command that `i` is, or none where `i` is no
command. -/
def AsksAsCommand (i : Instr) (s : State) (cs : List PortCall) : Prop :=
  (i.asCommand = none → cs = []) ∧
    ∀ c v, i.asCommand = some (c, v) → ∃ n, cs = (exchangeCalls (Claims.commandFrame s.unit c v)).take n

theorem asksAsCommand_of_calls_eq {i : Instr} {s t : State} (hi : i.asCommand = none)
    (h : t.calls = s.calls) : ∃ cs, t.calls = s.calls ++ cs ∧ AsksAsCommand i s cs :=
  ⟨[], h.trans (List.append_nil _).symm, fun _ => rfl, fun c v hc => by cases hi.symm.trans hc⟩

theorem asksAsCommand_of_command {i : Instr} {c : Command} {v : Int} {s t : State}
    (hi : i.asCommand = some (c, v)) (h : exec i s = .next t) :
    ∃ cs, t.calls = s.calls ++ cs ∧ AsksAsCommand i s cs := by
  rw [exec_of_asCommand hi] at h
  obtain ⟨n, hn⟩ := runCommand_calls h
  refine ⟨_, hn, fun hnone => absurd (hi.symm.trans hnone) (by simp), fun c' v' hc => ?_⟩
  cases hi.symm.trans hc
  exact ⟨n, rfl⟩

/-! ### The status word's turn -/

/-- `turn` is the low nibble of reply byte 1 followed by reply byte 2 (20_memory.md R33): the sum of the
shifted nibble and the byte has no carry. -/
theorem statusOf_turn (r1 r2 r3 : Byte) : (statusOf r1 r2 r3).turn = r1.extractLsb' 0 4 ++ r2 := by
  apply BitVec.eq_of_toNat_eq
  have hhigh := (r1.extractLsb' 0 4).isLt
  have hlow := r2.isLt
  rw [BitVec.toNat_append, ← Nat.shiftLeft_add_eq_or_of_lt hlow]
  simp only [statusOf, BitVec.zeroExtend, BitVec.toNat_add, BitVec.toNat_shiftLeft,
    BitVec.toNat_setWidth, Nat.shiftLeft_eq]
  omega

theorem exec_decodeStatus_five (s : State) (r0 r1 r2 r3 r4 : Byte) :
    exec (.decodeStatus [r0, r1, r2, r3, r4]) s = .next { s with sw := statusOf r1 r2 r3 } := rfl

end Sys2Proof.Machine

namespace Sys2Proof.Proofs

open Sys2Proof Sys2Proof.Machine

/-- Settles O35: the three operations with calls of their own by what each can do, the commands by
their shared routine, and the others by leaving the history as it is. -/
theorem everyOperationsTransportCalls : Obligations.EveryOperationsTransportCalls := by
  intro i s t h
  cases i with
  | construct port unit timeout => exact ⟨_, execConstruct_calls h, rfl⟩
  | teardown =>
    rcases execTeardown_calls h with hc | hc
    · exact ⟨_, hc, .inl rfl⟩
    · exact ⟨[], hc.trans (List.append_nil _).symm, .inr rfl⟩
  | exchange command value =>
    obtain ⟨n, hn⟩ := execExchange_calls h
    exact ⟨_, hn, n, rfl⟩
  | crcClr => cases h; exact asksAsCommand_of_calls_eq rfl rfl
  | crcBit b pos => cases h; exact asksAsCommand_of_calls_eq rfl rfl
  | crcByte b => cases h; exact asksAsCommand_of_calls_eq rfl (by rw [crcByteAlone_eq])
  | checksum bytes => cases h; exact asksAsCommand_of_calls_eq rfl (by rw [crcChecksum_eq])
  | buildFrame unit command value =>
    cases h; exact asksAsCommand_of_calls_eq rfl (by rw [frameBuild_eq]; rfl)
  | ackTest => cases h; exact asksAsCommand_of_calls_eq rfl rfl
  | decodeStatus reply => exact asksAsCommand_of_calls_eq rfl (execDecodeStatus_calls h)
  | assignAddress | releaseAddress | setPulsePerTurn | setSpeed | setMaxSpeed | setAcceleration
  | setSlowdown | setDirection | queryState | startMove | stopMove =>
    exact asksAsCommand_of_command rfl h

/-- Settles O40: the two parts of `turn` are the parts of the concatenation, and the example's bytes
give 0x502. -/
theorem turnTakesTheEarlierByteAsItsHighPart :
    Obligations.TurnTakesTheEarlierByteAsItsHighPart := by
  constructor
  · intro s r0 r1 r2 r3 r4
    refine ⟨_, exec_decodeStatus_five s r0 r1 r2 r3 r4, ?high, ?low⟩
    case high => simp only [statusOf_turn]; exact BitVec.extractLsb'_append_eq_left
    case low => simp only [statusOf_turn]; exact BitVec.extractLsb'_append_eq_right
  · intro s r0 r3 r4
    exact ⟨_, exec_decodeStatus_five s r0 0xB5 0x02 r3 r4, (statusOf_turn 0xB5 0x02 r3).trans (by decide)⟩

end Sys2Proof.Proofs

/-! Request frames read and built (30_encoding.md R50, R55, R58, R60): `parse_request` inverts
`BUILD_FRAME`, the decoder inverts the encoder, and every other sequence is refused by name. -/

namespace Sys2Proof

/-! ### The shape of a built frame -/

namespace Codec

theorem buildFrame_length_eq (unit command : Byte) (value : Option Byte) :
    (buildFrame unit command value).length = 4 ∨ (buildFrame unit command value).length = 5 := by
  cases value with
  | none => exact .inl rfl
  | some w => exact .inr rfl

theorem buildFrame_head? (unit command : Byte) (value : Option Byte) :
    (buildFrame unit command value).head? = some 0xE6 := rfl

/-- The last byte is the checksum of the bytes between START and it. -/
theorem buildFrame_getLast? (unit command : Byte) (value : Option Byte) :
    (buildFrame unit command value).getLast? =
      some (checksum (buildFrame unit command value).tail.dropLast) := by
  cases value <;> rfl

end Codec

/-! ### `parse_request` and `BUILD_FRAME` -/

theorem parseRequest_buildFrame (unit command : Byte) (value : Option Byte) :
    parseRequest (Codec.buildFrame unit command value) = some ⟨unit, command, value⟩ := by
  cases value with
  | none => exact if_pos ⟨rfl, rfl⟩
  | some w => exact if_pos ⟨rfl, rfl⟩

theorem buildFrame_of_parseRequest {bytes : List Byte} {p : ParsedRequest}
    (h : parseRequest bytes = some p) : Codec.buildFrame p.unit p.command p.value = bytes := by
  unfold parseRequest at h
  split at h
  case h_1 s0 u k c =>
    obtain ⟨⟨rfl, rfl⟩, hp⟩ := Option.ite_none_right_eq_some.mp h
    cases hp
    rfl
  case h_2 s0 u k w c =>
    obtain ⟨⟨rfl, rfl⟩, hp⟩ := Option.ite_none_right_eq_some.mp h
    cases hp
    rfl
  case h_3 => cases h

/-- What no call of `BUILD_FRAME` builds is no request. -/
theorem parseRequest_eq_none {bytes : List Byte}
    (h : ∀ unit command value, Codec.buildFrame unit command value ≠ bytes) :
    parseRequest bytes = none :=
  Option.eq_none_iff_forall_ne_some.mpr fun _ hp => h _ _ _ (buildFrame_of_parseRequest hp)

/-! ### A VALUE byte that the command's row does not take -/

section

variable {c : Command}

theorem Command.withValue_absent_some (h : c.row.source = .absent) (w : Byte) :
    c.withValue (some w) = .error .unexpectedValue := by
  simp only [Command.withValue, h]

theorem Command.withValue_none (h : c.row.source ≠ .absent) :
    c.withValue none = .error .missingValue := by
  cases hs : c.row.source with
  | operand lo hi => simp only [Command.withValue, hs]
  | fixed w => simp only [Command.withValue, hs]
  | absent => exact absurd hs h

theorem Command.withValue_fixed_ne {w w' : Byte} (h : c.row.source = .fixed w) (hw : w' ≠ w) :
    c.withValue (some w') = .error .fixedValueDiffers := by
  simp only [Command.withValue, h, if_neg hw]

theorem Command.withValue_operand_out {lo hi : Int} {w : Byte} (h : c.row.source = .operand lo hi)
    (hw : (w.toNat : Int) < lo ∨ hi ≤ (w.toNat : Int)) :
    c.withValue (some w) = .error .valueOutOfRange := by
  have hrej : ¬ (ValueSource.operand lo hi).accepts w.toNat = true := by
    simp only [ValueSource.accepts, Bool.and_eq_true, decide_eq_true_eq]
    omega
  simp only [Command.withValue, h, if_neg hrej]

end

theorem Command.source_eq_absent_iff {c : Command} : c.row.source = .absent ↔ c = .queryState := by
  cases c <;> decide

/-! ### The classifier by COMMAND and UNIT -/

theorem classify_unassigned {p : ParsedRequest} (h : Command.ofCode p.command = none) :
    classify p = .error .unknownCommand := by
  simp only [classify, h]

theorem classify_unit_0xFF (c : Command) (value : Option Byte) :
    classify ⟨0xFF, c.row.code, value⟩ = .error .unitOutOfRange := by
  simp only [classify, Command.ofCode_code, if_true]

theorem classify_code (c : Command) {unit : Byte} (hu : unit ≠ 0xFF) (value : Option Byte) :
    classify ⟨unit, c.row.code, value⟩ = (c.withValue value).map (fun i => (unit, i)) := by
  simp only [classify, Command.ofCode_code, if_neg hu]

/-- What the classifier accepts is a command's VALUE to a legal unit. -/
theorem classify_ok {p : ParsedRequest} {unit : Byte} {i : Instr} (h : classify p = .ok (unit, i)) :
    ∃ c : Command, unit ≠ 0xFF ∧ c.withValue p.value = .ok i ∧ p = ⟨unit, c.row.code, p.value⟩ := by
  obtain ⟨unit', command, value⟩ := p
  cases hc : Command.ofCode command with
  | none =>
    rw [classify_unassigned hc] at h
    cases h
  | some c =>
    cases Command.code_of_ofCode hc
    by_cases hu : unit' = 0xFF
    · rw [hu, classify_unit_0xFF] at h
      cases h
    · rw [classify_code c hu] at h
      cases hw : c.withValue value with
      | error e => rw [hw] at h; cases h
      | ok i' => rw [hw] at h; cases h; exact ⟨c, hu, hw, rfl⟩

/-! ### The decoder by the shape of its input -/

theorem decode_buildFrame (unit command : Byte) (value : Option Byte) :
    decode (Codec.buildFrame unit command value) = classify ⟨unit, command, value⟩ := by
  simp only [decode, parseRequest_buildFrame]

/-- A command's code to a legal unit with a VALUE that its row does not take. -/
theorem decode_buildFrame_of_withValue_error {c : Command} {unit : Byte} {value : Option Byte}
    {e : DecodeError} (hu : unit ≠ 0xFF) (h : c.withValue value = .error e) :
    decode (Codec.buildFrame unit c.row.code value) = .error e := by
  rw [decode_buildFrame, classify_code c hu, h]
  rfl

theorem decode_of_not_built {bytes : List Byte}
    (h : ∀ unit command value, Codec.buildFrame unit command value ≠ bytes) :
    decode bytes = .error (shapeError bytes) := by
  simp only [decode, parseRequest_eq_none h]

theorem decode_wrongLength {bytes : List Byte} (h4 : bytes.length ≠ 4) (h5 : bytes.length ≠ 5) :
    decode bytes = .error .wrongLength := by
  rw [decode_of_not_built, shapeError, if_pos ⟨h4, h5⟩]
  rintro unit command value rfl
  exact (Codec.buildFrame_length_eq unit command value).elim h4 h5

theorem decode_wrongStart {bytes : List Byte} (hl : bytes.length = 4 ∨ bytes.length = 5)
    (hs : bytes.head? ≠ some 0xE6) : decode bytes = .error .wrongStart := by
  rw [decode_of_not_built, shapeError, if_neg (by omega), Codec.startByte, if_pos hs]
  rintro unit command value rfl
  exact hs (Codec.buildFrame_head? unit command value)

theorem decode_wrongChecksum {bytes : List Byte} (hl : bytes.length = 4 ∨ bytes.length = 5)
    (hs : bytes.head? = some 0xE6)
    (hc : bytes.getLast? ≠ some (Codec.checksum bytes.tail.dropLast)) :
    decode bytes = .error .wrongChecksum := by
  rw [decode_of_not_built, shapeError, if_neg (by omega), Codec.startByte,
    if_neg (not_not_intro hs)]
  rintro unit command value rfl
  exact hc (Codec.buildFrame_getLast? unit command value)

/-! ### The encoder and the decoder -/

theorem Command.toInstr_of_asCommand {i : Instr} {c : Command} {v : Int}
    (h : i.asCommand = some (c, v)) : c.toInstr v = i := by
  cases i <;> cases h <;> rfl

/-- The operation of a command gives the command back with an operand that its row reads alike. -/
theorem Command.asCommand_toInstr_alike (c : Command) (v : Int) :
    ∃ v', (c.toInstr v).asCommand = some (c, v') ∧
      c.row.source.accepts v' = c.row.source.accepts v ∧
      c.row.source.valueByte v' = c.row.source.valueByte v := by
  obtain ⟨v', hc, hv⟩ := c.asCommand_toInstr v
  refine ⟨v', hc, ?_⟩
  cases hs : c.row.source with
  | operand lo hi => rw [hv lo hi hs]; exact ⟨rfl, rfl⟩
  | fixed w => exact ⟨rfl, rfl⟩
  | absent => exact ⟨rfl, rfl⟩

theorem Instr.wellFormed_of_asCommand {i : Instr} {c : Command} {v : Int}
    (h : i.asCommand = some (c, v)) : i.wellFormed = c.row.source.accepts v := by
  simp only [Instr.wellFormed, h]

/-- The encoder gives the frames of the commands with a legal operand and no others. -/
theorem encode_eq_some_iff {unit : Byte} {i : Instr} {bytes : List Byte} :
    encode unit i = some bytes ↔ ∃ c v, i.asCommand = some (c, v) ∧
      c.row.source.accepts v = true ∧
      Codec.buildFrame unit c.row.code (c.row.source.valueByte v) = bytes := by
  unfold encode
  cases hi : i.asCommand with
  | none => simp
  | some cv =>
    obtain ⟨c, v⟩ := cv
    simp

theorem wellFormed_of_encode {unit : Byte} {i : Instr} {bytes : List Byte}
    (h : encode unit i = some bytes) : i.wellFormed = true := by
  obtain ⟨c, v, hi, ha, _⟩ := encode_eq_some_iff.mp h
  exact (Instr.wellFormed_of_asCommand hi).trans ha

/-- A well-formed command has a frame. -/
theorem exists_encode {unit : Byte} {i : Instr} (hi : i.asCommand.isSome = true)
    (hw : i.wellFormed = true) : ∃ bytes, encode unit i = some bytes := by
  obtain ⟨⟨c, v⟩, hc⟩ := Option.isSome_iff_exists.mp hi
  exact ⟨_, encode_eq_some_iff.mpr ⟨c, v, hc, (Instr.wellFormed_of_asCommand hc).symm.trans hw, rfl⟩⟩

theorem decode_of_encode {unit : Byte} {i : Instr} {bytes : List Byte} (hu : unit ≠ 0xFF)
    (h : encode unit i = some bytes) : decode bytes = .ok (unit, i) := by
  obtain ⟨c, v, hi, ha, rfl⟩ := encode_eq_some_iff.mp h
  rw [decode_buildFrame, classify_code c hu, Command.withValue_valueByte ha,
    Command.toInstr_of_asCommand hi]
  rfl

theorem encode_of_decode {unit : Byte} {i : Instr} {bytes : List Byte}
    (h : decode bytes = .ok (unit, i)) : unit ≠ 0xFF ∧ encode unit i = some bytes := by
  cases hp : parseRequest bytes with
  | none => simp only [decode, hp] at h; cases h
  | some p =>
    simp only [decode, hp] at h
    obtain ⟨c, hu, hw, hpeq⟩ := classify_ok h
    obtain ⟨v, ha, hv, rfl⟩ := Command.withValue_ok hw
    obtain ⟨v', hi, ha', hv'⟩ := c.asCommand_toInstr_alike v
    have hbuilt := buildFrame_of_parseRequest hp
    rw [hpeq] at hbuilt
    exact ⟨hu, encode_eq_some_iff.mpr
      ⟨c, v', hi, ha'.trans ha, by rw [hv', hv]; exact hbuilt⟩⟩

end Sys2Proof

namespace Sys2Proof.Proofs

open Sys2Proof Sys2Proof.Machine

/-- Settles O2: a well-formed command has a frame, and the decoder inverts the encoder on it. -/
theorem everyEncodedCommandDecodesToItself : Obligations.EveryEncodedCommandDecodesToItself := by
  intro u i hu hi hw
  obtain ⟨bytes, he⟩ := exists_encode hi hw
  exact ⟨bytes, he, decode_of_encode hu he⟩

/-- Settles O3: the classifier accepts only the VALUE byte of a legal operand, and `BUILD_FRAME` gives
back every byte that `parse_request` read. -/
theorem everyDecodedFrameIsItsCommandsEncoding :
    Obligations.EveryDecodedFrameIsItsCommandsEncoding := by
  intro bytes u i h
  obtain ⟨hu, he⟩ := encode_of_decode h
  exact ⟨he, wellFormed_of_encode he, hu⟩

/-- Settles O4: the two laws of 30_encoding.md R60. -/
theorem parseRequestAndBuildFrameAreInverse : Obligations.ParseRequestAndBuildFrameAreInverse :=
  ⟨parseRequest_buildFrame, fun _ _ => buildFrame_of_parseRequest⟩

/-- Settles O6: the built frames by the classifier and the command's row, the other sequences by what
every built frame has. -/
theorem framesOfNoCommandAreRefusedByName : Obligations.FramesOfNoCommandAreRefusedByName := by
  refine ⟨?unknown, ?unit, ?unexpected, ?missing, ?fixed, ?range, fun _ => decode_wrongLength,
    fun _ => decode_wrongStart, fun _ => decode_wrongChecksum⟩
  case unknown =>
    intro u k w hk
    rw [decode_buildFrame, classify_unassigned hk]
  case unit =>
    intro c w
    rw [decode_buildFrame, classify_unit_0xFF]
  case unexpected =>
    intro u w hu
    exact decode_buildFrame_of_withValue_error (c := .queryState) hu
      (Command.withValue_absent_some rfl w)
  case missing =>
    intro c u hu hc
    exact decode_buildFrame_of_withValue_error hu
      (Command.withValue_none (mt Command.source_eq_absent_iff.mp hc))
  case fixed =>
    intro u w hu hw
    have hfixed (c : Command) (hs : c.row.source = .fixed 0x00) :
        decode (Codec.buildFrame u c.row.code (some w)) = .error .fixedValueDiffers :=
      decode_buildFrame_of_withValue_error hu (Command.withValue_fixed_ne hs hw)
    exact ⟨hfixed .releaseAddress rfl, hfixed .startMove rfl, hfixed .stopMove rfl⟩
  case range =>
    intro c lo hi u w hu hs hw
    exact decode_buildFrame_of_withValue_error hu (Command.withValue_operand_out hs hw)

/-- Settles O5: each frame is the encoding of its command, so it decodes to that command. -/
theorem sampleFramesDecode : Obligations.SampleFramesDecode :=
  ⟨decode_of_encode (by decide) (by decide +kernel), decode_of_encode (by decide) (by decide +kernel),
    decode_of_encode (by decide) (by decide +kernel), decode_of_encode (by decide) (by decide +kernel),
    decode_of_encode (by decide) (by decide +kernel)⟩

end Sys2Proof.Proofs

/-! Which frames an operation writes (30_encoding.md R58, 41_framer.md R83): those of an exchange with
an assigned code, and of a command only with a legal operand. -/

namespace Sys2Proof.Machine

/-- An exchange writes one frame, its own. -/
theorem eq_of_write_mem_exchangeCalls {frame frame' : List Byte} {n : Nat}
    (h : PortCall.write frame ∈ (exchangeCalls frame').take n) : frame = frame' := by
  simpa [exchangeCalls] using List.mem_of_mem_take h

theorem written_frame_of_asksAsCommand {i : Instr} {s : State} {cs : List PortCall} {frame : List Byte}
    (h : AsksAsCommand i s cs) (hw : PortCall.write frame ∈ cs) :
    ∃ c v, i.asCommand = some (c, v) ∧ frame = Claims.commandFrame s.unit c v := by
  obtain ⟨hnone, hsome⟩ := h
  cases hi : i.asCommand with
  | none => rw [hnone hi] at hw; cases hw
  | some cv =>
    obtain ⟨c, v⟩ := cv
    obtain ⟨n, rfl⟩ := hsome c v hi
    exact ⟨c, v, rfl, eq_of_write_mem_exchangeCalls hw⟩

/-- `EXCHANGE` is refused with an unassigned code. -/
theorem execExchange_assigned {command : Byte} {value : Option Byte} {s t : State}
    (h : execExchange command value s = .next t) : ∃ c : Command, c.row.code = command := by
  rcases execExchange_cases command value s with ⟨_, he⟩ | ⟨_, _, he⟩ | ⟨_, _, he⟩ |
    ⟨_, hc, _⟩ | ⟨_, hc, _⟩
  · cases he.symm.trans h
  · cases he.symm.trans h
  · cases he.symm.trans h
  · exact hc
  · exact hc

/-- A command that made a call had a legal operand. -/
theorem runCommand_legal_of_calls_ne {c : Command} {v : Int} {s t : State}
    (h : runCommand c v s = .next t) (hcalls : t.calls ≠ s.calls) :
    c.row.source.accepts v = true := by
  by_contra ha
  rcases whenReady_cases s (commandBody c.row v) with ⟨_, he⟩ | ⟨_, _, he⟩ | ⟨_, he⟩ <;>
    cases he.symm.trans h
  rw [commandBody_of_illegal (Bool.eq_false_of_not_eq_true ha)] at hcalls
  exact hcalls rfl

/-- A written frame is that of the operation's exchange: a host-started `EXCHANGE` or a command. -/
theorem written_frame_cases {i : Instr} {s t : State} {cs : List PortCall} {frame : List Byte}
    (h : exec i s = .next t) (hcs : t.calls = s.calls ++ cs) (hw : PortCall.write frame ∈ cs) :
    (∃ code value, i = .exchange code value ∧ frame = Codec.buildFrame s.unit code value) ∨
    (∃ c v, i.asCommand = some (c, v) ∧ frame = Claims.commandFrame s.unit c v) := by
  obtain ⟨cs', hcs', hasks⟩ := Proofs.everyOperationsTransportCalls i s t h
  obtain rfl : cs' = cs := List.append_cancel_left (hcs'.symm.trans hcs)
  cases i with
  | construct port unit timeout => rw [hasks] at hw; simp at hw
  | teardown => rcases hasks with rfl | rfl <;> simp at hw
  | exchange code value =>
    obtain ⟨n, rfl⟩ := hasks
    exact .inl ⟨code, value, rfl, eq_of_write_mem_exchangeCalls hw⟩
  | _ => exact .inr (written_frame_of_asksAsCommand hasks hw)

end Sys2Proof.Machine

namespace Sys2Proof.Proofs

open Sys2Proof Sys2Proof.Machine

/-- Settles O42: `EXCHANGE` runs with an assigned code only, and a command that writes has found its
operand legal. -/
theorem everyWrittenFrameCarriesAnAssignedCode :
    Obligations.EveryWrittenFrameCarriesAnAssignedCode := by
  intro i s t cs frame h hcs hw
  rcases written_frame_cases h hcs hw with ⟨code, value, rfl, rfl⟩ | ⟨c, v, hi, rfl⟩
  · obtain ⟨c, rfl⟩ := execExchange_assigned h
    exact ⟨⟨c, value, rfl⟩, fun hne => absurd rfl (hne _ _)⟩
  · have hcalls : t.calls ≠ s.calls := fun heq => by
      rw [List.self_eq_append_right.mp (heq.symm.trans hcs)] at hw
      cases hw
    rw [exec_of_asCommand hi] at h
    exact ⟨⟨c, _, rfl⟩, fun _ => ⟨c, v, runCommand_legal_of_calls_ne h hcalls, rfl⟩⟩

end Sys2Proof.Proofs

/-! The CRC unit (40_crc.md): one bit-step in its equal form of R75, the fold of a byte as a linear
function over XOR (R76 (a)), and from that its table form and what of its input it sees (R76 (b) to
(d)). -/

namespace Sys2Proof.Codec

open Sys2Proof.Claims

/-! ### One bit-step -/

/-- The byte `k` if the bit is set, else 0x00. -/
def gated (bit : Bool) (k : Byte) : Byte := if bit then k else 0x00

theorem gated_xor (bit1 bit2 : Bool) (k : Byte) :
    gated (bit1 ^^ bit2) k = gated bit1 k ^^^ gated bit2 k := by
  cases bit1 <;> cases bit2 <;> simp [gated]

/-- Bit 7 of a byte shifted right by one is clear, so that setting it is flipping it. -/
theorem ushiftRight_one_or_top (c : Byte) : c >>> 1 ||| 0x80 = c >>> 1 ^^^ 0x80 := by
  ext j hj
  interval_cases j <;> simp

/-- The reason R75 gives: the shift moves 0x18 to 0x0C, and setting bit 7 is flipping it. -/
theorem taken_branch_eq (c : Byte) : (c ^^^ 0x18) >>> 1 ||| 0x80 = c >>> 1 ^^^ 0x8C := by
  rw [ushiftRight_one_or_top, BitVec.ushiftRight_xor_distrib, BitVec.xor_assoc]
  rfl

theorem crcBitStep_eq_xor (c b : Byte) (i : BitPos) :
    crcBitStep c b i = c >>> 1 ^^^ gated ((c ^^^ b).getLsbD i.val) 0x8C := by
  rw [crcBitStep_eq]
  cases (c ^^^ b).getLsbD i.val with
  | true => exact taken_branch_eq c
  | false => exact (BitVec.xor_zero).symm

theorem crcBitStep_getLsbD_seven (c b : Byte) (i : BitPos) :
    (crcBitStep c b i).getLsbD 7 = (c ^^^ b).getLsbD i.val := by
  have hshift : (c >>> 1).getLsbD 7 = false := by simp
  rw [crcBitStep_eq_xor, BitVec.getLsbD_xor, hshift, Bool.false_xor]
  cases (c ^^^ b).getLsbD i.val <;> rfl

@[simp] theorem crcBitStep_zero_zero (i : BitPos) : crcBitStep 0x00 0x00 i = 0x00 := by
  simp [crcBitStep_eq_xor, gated]

/-- The shift, the tested bit and the feedback are each linear over XOR. -/
theorem crcBitStep_xor (c1 c2 b1 b2 : Byte) (i : BitPos) :
    crcBitStep (c1 ^^^ c2) (b1 ^^^ b2) i = crcBitStep c1 b1 i ^^^ crcBitStep c2 b2 i := by
  have htest : (c1 ^^^ c2) ^^^ (b1 ^^^ b2) = (c1 ^^^ b1) ^^^ (c2 ^^^ b2) := by ac_rfl
  simp only [crcBitStep_eq_xor, htest, BitVec.getLsbD_xor, gated_xor,
    BitVec.ushiftRight_xor_distrib]
  ac_rfl

/-! ### The fold of a byte -/

@[simp] theorem crcByte_zero_zero : crcByte 0x00 0x00 = 0x00 :=
  List.foldl_fixed' crcBitStep_zero_zero bitPositions

theorem crcByte_xor (c1 c2 b1 b2 : Byte) :
    crcByte (c1 ^^^ c2) (b1 ^^^ b2) = crcByte c1 b1 ^^^ crcByte c2 b2 :=
  List.foldl_hom₂ _ _ _ _ _ _ _ fun c1 c2 i => (crcBitStep_xor c1 c2 b1 b2 i).symm

/-- What the accumulator and the byte contribute, each on its own. -/
theorem crcByte_eq_xor (c b : Byte) : crcByte c b = crcByte c 0x00 ^^^ crcByte 0x00 b := by
  simpa using crcByte_xor c 0x00 0x00 b

theorem checksum_replicate_zero (n : Nat) : checksum (List.replicate n 0x00) = 0x00 := by
  induction n with
  | zero => rfl
  | succ n ih => rw [List.replicate_succ', checksum_append_singleton, ih, crcByte_zero_zero]

/-! ### Functions on bytes that are linear over XOR: fixed by their values on the single bits -/

/-- The law of 40_crc.md R76 (a), of a function of one byte. -/
def XorLinear (f : Byte → Byte) : Prop := ∀ x y, f (x ^^^ y) = f x ^^^ f y

theorem XorLinear.zero {f : Byte → Byte} (hf : XorLinear f) : f 0x00 = 0x00 := by
  simpa using hf 0x00 0x00

theorem XorLinear.comp {f g : Byte → Byte} (hf : XorLinear f) (hg : XorLinear g) :
    XorLinear (f ∘ g) := fun x y => by
  simp only [Function.comp_apply, hg x y, hf (g x) (g y)]

theorem XorLinear.map_gated {f : Byte → Byte} (hf : XorLinear f) (bit : Bool) (k : Byte) :
    f (gated bit k) = gated bit (f k) := by
  cases bit with
  | true => rfl
  | false => exact hf.zero

/-- The XOR of the constants over the set bits of a byte (40_crc.md R76 (b)). -/
def xorOverBits (constants : List Byte) (b : Byte) : Byte :=
  (bitPositions.zip constants).foldl (fun acc p => acc ^^^ gated (b.getLsbD p.1.val) p.2) 0x00

theorem crcTable_eq_xorOverBits (b : Byte) : crcTable b = xorOverBits crcBasis b := by
  have hstep (acc : Byte) (p : BitPos × Byte) :
      (if b.getLsbD p.1.val then acc ^^^ p.2 else acc) = acc ^^^ gated (b.getLsbD p.1.val) p.2 := by
    cases b.getLsbD p.1.val <;> simp [gated]
  simp only [crcTable, xorOverBits, hstep]

theorem xorOverBits_linear (constants : List Byte) : XorLinear (xorOverBits constants) := by
  intro x y
  refine List.foldl_hom₂ _ (· ^^^ ·) _ _ _ (0x00 : Byte) (0x00 : Byte) fun u v p => ?_
  rw [BitVec.getLsbD_xor, gated_xor]
  ac_rfl

theorem XorLinear.map_xorOverBits {f : Byte → Byte} (hf : XorLinear f) (constants : List Byte)
    (b : Byte) : f (xorOverBits constants b) = xorOverBits (constants.map f) b := by
  simp only [xorOverBits, List.zip_map_right, List.foldl_map, Prod.map_fst, Prod.map_snd, id_eq]
  conv_rhs => rw [← hf.zero]
  refine (List.foldl_hom f fun acc p => ?_).symm
  rw [hf, hf.map_gated]

/-- The byte with bit `j` alone set. -/
def oneBit (j : BitPos) : Byte := BitVec.twoPow 8 j.val

/-- A byte is the XOR of its set bits. -/
theorem xorOverBits_oneBit (b : Byte) : xorOverBits (bitPositions.map oneBit) b = b := by
  have hbit (j : BitPos) : gated (b.getLsbD j.val) (oneBit j) = b &&& oneBit j :=
    (BitVec.and_twoPow b j.val).symm
  simp only [xorOverBits, bitPositions, List.map, List.zip_cons_cons, List.zip_nil_left, List.foldl,
    hbit]
  ext k hk
  interval_cases k <;> simp [oneBit]

theorem XorLinear.eq_xorOverBits {f : Byte → Byte} (hf : XorLinear f) (b : Byte) :
    f b = xorOverBits (bitPositions.map (f ∘ oneBit)) b := by
  rw [← List.map_map, ← hf.map_xorOverBits, xorOverBits_oneBit]

theorem XorLinear.ext {f g : Byte → Byte} (hf : XorLinear f) (hg : XorLinear g)
    (h : bitPositions.map (f ∘ oneBit) = bitPositions.map (g ∘ oneBit)) (b : Byte) : f b = g b := by
  rw [hf.eq_xorOverBits, hg.eq_xorOverBits, h]

/-! ### The table form -/

theorem crcByte_zero_linear : XorLinear (crcByte 0x00) := crcByte_xor 0x00 0x00

theorem crcByte_zero_right_linear : XorLinear (crcByte · 0x00) := fun c1 c2 =>
  crcByte_xor c1 c2 0x00 0x00

theorem crcByte_zero_eq_crcTable (b : Byte) : crcByte 0x00 b = crcTable b := by
  have hbasis : bitPositions.map (crcByte 0x00 ∘ oneBit) = crcBasis := by decide +kernel
  rw [crcByte_zero_linear.eq_xorOverBits, hbasis, crcTable_eq_xorOverBits]

theorem evenBits_linear : XorLinear evenBits := fun x y => by
  simp only [evenBits, BitVec.getLsbD_xor]
  generalize x.getLsbD 0 = x0, x.getLsbD 2 = x2, x.getLsbD 4 = x4, x.getLsbD 6 = x6,
    y.getLsbD 0 = y0, y.getLsbD 2 = y2, y.getLsbD 4 = y4, y.getLsbD 6 = y6
  revert x0 x2 x4 x6 y0 y2 y4 y6
  decide +kernel

/-- The incoming accumulator acts as its packed even-numbered bits in the byte would. -/
theorem crcByte_zero_right_eq (c : Byte) : crcByte c 0x00 = crcByte 0x00 (evenBits c) :=
  crcByte_zero_right_linear.ext (crcByte_zero_linear.comp evenBits_linear) (by decide +kernel) c

theorem crcByte_eq_crcTable (c b : Byte) : crcByte c b = crcTable (b ^^^ evenBits c) := by
  rw [crcByte_eq_xor, crcByte_zero_right_eq, BitVec.xor_comm, ← crcByte_zero_linear b,
    crcByte_zero_eq_crcTable]

/-! ### What of the input the fold sees -/

/-- The constants of the inverse of the table `B` of 40_crc.md R76 (b): the `j`-th is the byte `b`
with `B[b] = 1 << j`. -/
def crcInverseBasis : List Byte := [0x15, 0x06, 0x2C, 0x08, 0x45, 0x33, 0xEA, 0xA4]

theorem xorOverBits_crcInverseBasis_crcByte (b : Byte) :
    xorOverBits crcInverseBasis (crcByte 0x00 b) = b := by
  have hid : XorLinear id := fun _ _ => rfl
  have hcomp := (xorOverBits_linear crcInverseBasis).comp crcByte_zero_linear
  exact hcomp.ext hid (by decide +kernel) b

theorem crcByte_right_injective (c : Byte) : Function.Injective (crcByte c) := by
  intro b b' h
  rw [crcByte_eq_xor c b, crcByte_eq_xor c b'] at h
  exact Function.LeftInverse.injective xorOverBits_crcInverseBasis_crcByte
    ((BitVec.xor_right_inj _).mp h)

theorem evenBits_and_0x55 (c : Byte) : evenBits (c &&& 0x55) = evenBits c := by
  simp [evenBits]

theorem crcByte_and_0x55 (c b : Byte) : crcByte c b = crcByte (c &&& 0x55) b := by
  rw [crcByte_eq_crcTable, crcByte_eq_crcTable, evenBits_and_0x55]

end Sys2Proof.Codec

/-! ### The operations -/

namespace Sys2Proof.Machine

theorem exec_crcClr (s : State) : exec .crcClr s = .next { s with crc := 0x00 } := rfl

theorem exec_crcBit (b : Byte) (i : BitPos) (s : State) :
    exec (.crcBit b i) s = .next { s with crc := Codec.crcBitStep s.crc b i } := rfl

theorem exec_crcByte (b : Byte) (s : State) :
    exec (.crcByte b) s =
      .next { s with crc := Codec.crcByte s.crc b, biti := 0, byteIndex := 0 } := by
  rw [← crcByteAlone_eq]
  rfl

theorem exec_checksum (bytes : List Byte) (s : State) :
    exec (.checksum bytes) s =
      .next { s with crc := Codec.checksum bytes, biti := 0, byteIndex := bytes.length } := by
  rw [← crcChecksum_eq]
  rfl

end Sys2Proof.Machine

namespace Sys2Proof.Proofs

open Sys2Proof Sys2Proof.Machine

/-- Settles O9: `CRC.BYTE` leaves the fold over the eight positions, which is the eight bit-steps
written out; the rule's table is evaluated. -/
theorem crcByteIsEightBitSteps : Obligations.CrcByteIsEightBitSteps := by
  refine ⟨?eightSteps, Codec.crcByte_zero_zero, ?table, ?last, ?reversed⟩
  case eightSteps => exact fun s b => ⟨_, exec_crcByte b s, rfl, Codec.crcByte_eq_foldl s.crc b⟩
  case table => decide +kernel
  case last => decide +kernel
  case reversed => decide +kernel

/-- Settles O10: what `CHECKSUM` leaves, and the laws of the fold from 0x00. -/
theorem checksumFoldsItsInputFromZero : Obligations.ChecksumFoldsItsInputFromZero :=
  ⟨fun s bytes => ⟨_, exec_checksum bytes s, rfl, rfl⟩, Codec.checksum_nil,
    Codec.checksum_append_singleton, Codec.checksum_replicate_zero, by decide +kernel,
    by decide +kernel, by decide +kernel⟩

/-- Settles O12: every bit-step is linear, so their composition is. -/
theorem crcByteIsLinear : Obligations.CrcByteIsLinear := Codec.crcByte_xor

/-- Settles O13: the fold of a byte has the table form, and `CHECKSUM` folds it. -/
theorem checksumEqualsItsTableForm : Obligations.ChecksumEqualsItsTableForm := by
  refine ⟨Codec.crcByte_eq_crcTable, fun s bytes => ⟨_, exec_checksum bytes s, ?_⟩⟩
  simp only [Codec.checksum_eq_foldl, ← Codec.crcByte_eq_crcTable]
  rfl

/-- Settles O14: after any accumulator the fold is injective in the byte, and of the accumulator
the table form reads the even-numbered bits only. -/
theorem checksumSeesTheLastByteInFull : Obligations.ChecksumSeesTheLastByteInFull := by
  refine ⟨fun bytes b b' h => ?_, Codec.crcByte_and_0x55⟩
  rw [Codec.checksum_append_singleton, Codec.checksum_append_singleton] at h
  exact Codec.crcByte_right_injective (Codec.checksum bytes) h

/-- Settles O7: `CRC.CLR` is the write of `CRC_INIT` alone. -/
theorem crcClrZeroesTheAccumulator : Obligations.CrcClrZeroesTheAccumulator := exec_crcClr

/-- Settles O8: `CRC.BIT` is the codec's bit-step on `CRC`; the rule's example is evaluated. -/
theorem crcBitIsOneBitStep : Obligations.CrcBitIsOneBitStep := by
  refine ⟨fun s b i => exec_crcBit b i s, Codec.crcBitStep_zero_zero, fun s h => ?_⟩
  rw [exec_crcBit, h]
  rfl

/-- Settles O11: the equal form of the taken branch, of the whole bit-step, and its bit 7. -/
theorem takenBranchHasAnEqualForm : Obligations.TakenBranchHasAnEqualForm :=
  ⟨Codec.taken_branch_eq, Codec.crcBitStep_eq_xor, Codec.crcBitStep_getLsbD_seven⟩

end Sys2Proof.Proofs

/-! The framer unit and the status decoder (41_framer.md): what `BUILD_FRAME`, `ACK_TEST` and
`DECODE_STATUS` leave, and the host-started `EXCHANGE` on a ready block, which runs to its reply or to
the first primitive that fails. -/

namespace Sys2Proof.Machine

/-! ### `BUILD_FRAME`, `ACK_TEST` and `DECODE_STATUS` -/

theorem exec_buildFrame (unit command : Byte) (value : Option Byte) (s : State) :
    exec (.buildFrame unit command value) s = .next (s.built unit command value) :=
  congrArg Host.Outcome.next (frameBuild_eq unit command value s)

theorem State.built_txLen (s : State) (unit command : Byte) (value : Option Byte) :
    (s.built unit command value).txLen.val = 4 + value.toList.length :=
  (count5_val (Codec.buildFrame_length_le unit command value)).trans
    (Codec.buildFrame_length unit command value)

theorem exec_ackTest (s : State) :
    exec .ackTest s = .next { s with ack := decide (1 ≤ s.rxLen.val) } := rfl

/-- What follows the fifth byte does not matter (decision D8). -/
theorem exec_decodeStatus_of_five_or_more (s : State) (r0 r1 r2 r3 r4 : Byte) (more : List Byte) :
    exec (.decodeStatus (r0 :: r1 :: r2 :: r3 :: r4 :: more)) s =
      .next { s with sw := statusOf r1 r2 r3 } := rfl

/-- `turn` as the number R82 gives: the low nibble of reply byte 1 times 256, plus reply byte 2. -/
theorem statusOf_turn_toNat (r1 r2 r3 : Byte) :
    (statusOf r1 r2 r3).turn.toNat = r1.toNat % 16 * 256 + r2.toNat := by
  have hnibble : (r1.extractLsb' 0 4).toNat = r1.toNat % 16 := by
    rw [BitVec.extractLsb'_toNat, Nat.shiftRight_zero]
  rw [statusOf_turn, BitVec.toNat_append, ← Nat.shiftLeft_add_eq_or_of_lt r2.isLt, hnibble,
    Nat.shiftLeft_eq]

/-! ### `EXCHANGE` on a ready block -/

/-- With an assigned code it runs its five steps, whatever the VALUE. -/
theorem exec_exchange_of_assigned {s : State} (hs : s.ready) (c : Command) (value : Option Byte) :
    exec (.exchange c.row.code value) s = .next (exchangeAlone c.row.code value s) := by
  change execExchange c.row.code value s = _
  rw [execExchange, requireReady_of_ready hs, Command.ofCode_code]

theorem exec_exchange_of_unassigned {s : State} (hs : s.ready) {code : Byte} (value : Option Byte)
    (hc : ∀ c : Command, c.row.code ≠ code) :
    exec (.exchange code value) s = .refused .unassignedCommand := by
  change execExchange code value s = _
  rw [execExchange, requireReady_of_ready hs, Command.ofCode_eq_none_iff.mpr hc]

/-- From an idle block the five steps end in the state `State.exchanged`, idle again. -/
theorem exchangeAlone_of_reply {s : State} {code : Byte} {value : Option Byte} {reply : List Byte}
    (hp : s.phase = .idle)
    (hr : s.exchangeReply (Codec.buildFrame s.unit code value) = some reply) :
    exchangeAlone code value s = s.exchanged code value reply := by
  rw [exchangeAlone, exchange_of_reply hr]
  have hidle : (s.exchanged code value reply).phase = .idle := hp
  simp only [State.atPhase, ← hidle]

theorem exchangeAlone_of_failure {s : State} {code : Byte} {value : Option Byte} {k : Nat}
    (hk : s.firstFailure (Codec.buildFrame s.unit code value) = some k) :
    exchangeAlone code value s = s.exchangeFailed code value k := by
  rw [exchangeAlone, exchange_of_failure hk]

theorem State.txFrame_exchanged (s : State) (code : Byte) (value : Option Byte) (reply : List Byte) :
    (s.exchanged code value reply).txFrame = Codec.buildFrame s.unit code value :=
  s.txFrame_built s.unit code value

/-! ### An operation that stops at a failing primitive -/

/-- The fault names the primitive (60_exceptions.md R112). -/
theorem State.exchangeFailed_finfo (s : State) (code : Byte) (value : Option Byte) (k : Nat) :
    (s.exchangeFailed code value k).finfo = .transport (Claims.failedPrimitive k) := by
  match k with
  | 0 => rfl
  | 1 => rfl
  | 2 => rfl
  | k + 3 => simp [State.exchangeFailed, Claims.failedPrimitive]

/-- One answer is used up by each call that was made. -/
theorem State.exchangeFailed_draws (s : State) (code : Byte) (value : Option Byte) {k : Nat}
    (hk : k < 4) : (s.exchangeFailed code value k).draws = s.draws.drop (k + 1) := by
  match k, hk with
  | 0, _ => rfl
  | 1, _ => rfl
  | 2, _ => rfl
  | 3, _ => rfl

/-- An operation whose start writes at most `FAULT` and the latches, and which ends in
`State.exchangeFailed` of the started state, does all that `Claims.FailsWithTransport` asks. -/
theorem failsWithTransport_of_exec {i : Instr} {code : Byte} {value : Option Byte}
    {start : State → State}
    (hstart : ∀ s, ∃ f c p v, start s = { s with fault := f, cmd := c, valp := p, val := v })
    (hexec : ∀ (s : State) (k : Nat), s.ready →
      s.firstFailure (Codec.buildFrame s.unit code value) = some k →
      exec i s = .next ((start s).exchangeFailed code value k)) :
    Claims.FailsWithTransport i code value start := by
  intro s k hs hk
  have hk4 := State.firstFailure_lt hk
  have he := hexec s k hs hk
  obtain ⟨f, c, p, v, hu⟩ := hstart s
  rw [hu] at he ⊢
  exact ⟨_, he, hk4, rfl, State.exchangeFailed_fault .., State.exchangeFailed_finfo ..,
    State.exchangeFailed_resKind .., State.exchangeFailed_phase ..,
    (State.exchangeFailed_isOpen ..).trans hs.1, State.exchangeFailed_constructed ..,
    State.exchangeFailed_calls .., State.exchangeFailed_draws _ _ _ hk4,
    State.exchangeFailed_requests .., State.exchangeFailed_before_build _ _ _ k,
    State.exchangeFailed_after_build _ _ _ k, State.exchangeFailed_before_read _ _ _ k,
    State.exchangeFailed_cmd .., State.exchangeFailed_valp .., State.exchangeFailed_val ..,
    State.exchangeFailed_sw .., State.exchangeFailed_ack .., State.exchangeFailed_trace ..,
    State.exchangeFailed_unit .., State.exchangeFailed_portId .., State.exchangeFailed_timeout ..⟩

end Sys2Proof.Machine

namespace Sys2Proof.Proofs

open Sys2Proof Sys2Proof.Machine

/-- Settles O15: `BUILD_FRAME` leaves the state `State.built`, which holds the frame; the rule's
examples are evaluated. -/
theorem buildFrameLeavesTheFrame : Obligations.BuildFrameLeavesTheFrame := by
  refine ⟨fun s unit command value => ?leaves, by decide +kernel, by decide +kernel⟩
  have hlen : (s.built unit command value).txLen.val = 4 + (if value.isSome then 1 else 0) := by
    rw [State.built_txLen]
    cases value <;> rfl
  exact ⟨_, exec_buildFrame unit command value s, s.txFrame_built unit command value, hlen, rfl, rfl⟩

/-- Settles O17: `DECODE_STATUS` writes the status word of bytes 1 to 3, whose flags and speed are
read off and whose turn is the number the rule gives. -/
theorem decodeStatusExtractsSixFields : Obligations.DecodeStatusExtractsSixFields :=
  fun s r0 r1 r2 r3 r4 more => ⟨_, exec_decodeStatus_of_five_or_more s r0 r1 r2 r3 r4 more, rfl, rfl,
    rfl, rfl, rfl, statusOf_turn_toNat r1 r2 r3, rfl⟩

/-- Settles O19: an assigned code runs, the five steps reach the reply, and the buffers hold the frame
and the reply in full. -/
theorem exchangeRunsItsFiveSteps : Obligations.ExchangeRunsItsFiveSteps := by
  intro s c value reply hs hr
  have hexec := exec_exchange_of_assigned hs c value
  rw [exchangeAlone_of_reply hs.2 hr] at hexec
  have hlen := State.exchangeReply_length hr
  exact ⟨_, hexec, rfl, s.txFrame_exchanged c.row.code value reply,
    s.rxReply_exchanged c.row.code value reply hlen, hlen⟩

/-- Settles O20: a host-started `EXCHANGE` starts in the state it finds and ends at the first failing
primitive. -/
theorem exchangeStopsAtAFailingPrimitive : Obligations.ExchangeStopsAtAFailingPrimitive := by
  refine fun c value => failsWithTransport_of_exec (fun s => ⟨_, _, _, _, rfl⟩) fun s k hs hk => ?_
  rw [exec_exchange_of_assigned hs, exchangeAlone_of_failure hk, id]

/-- Settles O41: the code alone decides whether a ready block runs the exchange. -/
theorem exchangeRunsWithTheElevenCodesOnly : Obligations.ExchangeRunsWithTheElevenCodesOnly :=
  fun _ hs => ⟨fun c value => ⟨_, exec_exchange_of_assigned hs c value⟩,
    fun _ value hc => exec_exchange_of_unassigned hs value hc⟩

/-- Settles O16: `ACK` becomes the comparison of `RXLEN` with 1, which each case decides. -/
theorem ackTestIsTheNonEmptyTest : Obligations.AckTestIsTheNonEmptyTest := by
  intro s
  rw [exec_ackTest]
  constructor
  · intro hr
    rw [decide_eq_true hr]
  · intro hr
    rw [decide_eq_false (by omega)]

end Sys2Proof.Proofs

/-! The commands on a ready block (42_commands.md): what a command with a legal operand reports for the
reply its exchange gets (R90), and that it otherwise stops at the failing primitive. -/

namespace Sys2Proof.Machine

open Claims

/-! ### The report of a reply -/

/-- `s` with the result that the kind names for `reply` written (42_commands.md R90): `ACK`, nothing,
or `SW`, where a reply too short for a status word is the fault of 60_exceptions.md R113. -/
def State.reported (s : State) (result : CommandResult) (reply : List Byte) : State :=
  match result with
  | .bool => { s with ack := decide (reply ≠ []), resKind := .bool }
  | .none => { s with resKind := .none }
  | .status =>
    match decodeStatus reply with
    | some sw => { s with sw := sw, resKind := .status }
    | none => { s with fault := .protocol, finfo := .protocol .decode reply.length, resKind := .fault }

theorem State.txFrame_afterExchange (s : State) (code : Byte) (value : Option Byte)
    (reply : List Byte) :
    (afterExchange s code value reply).txFrame = Codec.buildFrame s.unit code value :=
  State.txFrame_exchanged _ code value reply

theorem State.rxReply_afterExchange (s : State) (code : Byte) (value : Option Byte)
    {reply : List Byte} (hl : reply.length ≤ 5) :
    (afterExchange s code value reply).rxReply = reply :=
  State.rxReply_exchanged _ code value reply hl

theorem State.fault_afterExchange (s : State) (code : Byte) (value : Option Byte)
    (reply : List Byte) : (afterExchange s code value reply).fault = .noFault := rfl

/-- After an exchange of an idle block the interpretation of `RXBUF` reports the reply. -/
theorem interpretReply_afterExchange {s : State} (hp : s.phase = .idle) (code : Byte)
    (value : Option Byte) (result : CommandResult) {reply : List Byte} (hl : reply.length ≤ 5) :
    interpretReply result ((afterExchange s code value reply).atPhase .interpret) =
      (afterExchange s code value reply).reported result reply := by
  have hidle : (afterExchange s code value reply).phase = .idle := hp
  cases result with
  | bool =>
    have hack : ackBit (afterExchange s code value reply).rxLen = decide (reply ≠ []) :=
      ackBit_count5 hl
    rw [interpretReply_bool hidle, hack]
    rfl
  | none => exact interpretReply_none hidle
  | status =>
    rw [interpretReply_status hidle, State.rxReply_afterExchange s code value hl]
    rfl

theorem State.reported_status_five (s : State) (r0 r1 r2 r3 r4 : Byte) :
    s.reported .status [r0, r1, r2, r3, r4] =
      { s with sw := statusOf r1 r2 r3, resKind := .status } := rfl

/-- The report writes the registers of a result and of a fault, and nothing else. -/
theorem State.reported_writes_result (s : State) (result : CommandResult) (reply : List Byte) :
    ∃ sw ack kind fault info, s.reported result reply =
      { s with sw := sw, ack := ack, resKind := kind, fault := fault, finfo := info } := by
  cases result with
  | bool => exact ⟨_, _, _, _, _, rfl⟩
  | none => exact ⟨_, _, _, _, _, rfl⟩
  | status =>
    simp only [State.reported]
    cases decodeStatus reply with
    | none => exact ⟨_, _, _, _, _, rfl⟩
    | some sw => exact ⟨_, _, _, _, _, rfl⟩

theorem State.txFrame_reported (s : State) (result : CommandResult) (reply : List Byte) :
    (s.reported result reply).txFrame = s.txFrame := by
  obtain ⟨_, _, _, _, _, he⟩ := s.reported_writes_result result reply
  rw [he]
  rfl

theorem State.rxReply_reported (s : State) (result : CommandResult) (reply : List Byte) :
    (s.reported result reply).rxReply = s.rxReply := by
  obtain ⟨_, _, _, _, _, he⟩ := s.reported_writes_result result reply
  rw [he]
  rfl

theorem State.txFrame_reported_afterExchange (s : State) (code : Byte) (value : Option Byte)
    (result : CommandResult) (reply : List Byte) :
    ((afterExchange s code value reply).reported result reply).txFrame =
      Codec.buildFrame s.unit code value := by
  rw [State.txFrame_reported, State.txFrame_afterExchange]

theorem State.rxReply_reported_afterExchange (s : State) (code : Byte) (value : Option Byte)
    (result : CommandResult) {reply : List Byte} (hl : reply.length ≤ 5) :
    ((afterExchange s code value reply).reported result reply).rxReply = reply := by
  rw [State.rxReply_reported, State.rxReply_afterExchange s code value hl]

/-- The two states report the same result: the same `RES_KIND` and `FAULT`, and of the registers a
result can stand in the one that `RES_KIND` names. -/
def State.SameResult (t1 t2 : State) : Prop :=
  t1.resKind = t2.resKind ∧ t1.fault = t2.fault ∧ (t1.resKind = .bool → t1.ack = t2.ack) ∧
    (t1.resKind = .status → t1.sw = t2.sw) ∧ (t1.resKind = .fault → t1.finfo = t2.finfo)

/-- Reports of one reply agree, whatever else the two states hold (42_commands.md R103). -/
theorem State.SameResult.reported {s1 s2 : State} (hf : s1.fault = s2.fault)
    (result : CommandResult) (reply : List Byte) :
    (s1.reported result reply).SameResult (s2.reported result reply) := by
  cases result with
  | bool => exact ⟨rfl, hf, fun _ => rfl, nofun, nofun⟩
  | none => exact ⟨rfl, hf, nofun, nofun, nofun⟩
  | status =>
    simp only [State.reported]
    cases decodeStatus reply with
    | none => exact ⟨rfl, rfl, nofun, nofun, fun _ => rfl⟩
    | some sw => exact ⟨rfl, hf, nofun, fun _ => rfl, nofun⟩

/-! ### A command with a legal operand -/

section

variable {i : Instr} {c : Command} {v : Int} {code : Byte} {source : ValueSource}
  {result : CommandResult}

/-- On a ready block whose transport answers, it reports the reply. -/
theorem exec_command_of_reply {s : State} {reply : List Byte} (hi : i.asCommand = some (c, v))
    (hrow : c.row = ⟨code, source, result⟩) (ha : source.accepts v = true) (hs : s.ready)
    (hr : s.exchangeReply (Codec.buildFrame s.unit code (source.valueByte v)) = some reply) :
    exec i s = .next ((afterExchange s code (source.valueByte v) reply).reported result reply) := by
  rw [exec_of_asCommand hi, ← interpretReply_afterExchange hs.2 _ _ _ (State.exchangeReply_length hr)]
  exact runCommand_of_reply hs (by rw [hrow]) (by rw [hrow]) (by rw [hrow]) (by rw [hrow]; exact ha) hr

/-- The same for a command given with its operand, which a row without an operand does not read. -/
theorem exec_toInstr_of_reply {s : State} {reply : List Byte} (hw : (c.toInstr v).wellFormed = true)
    (hs : s.ready) (hr : s.exchangeReply (commandFrame s.unit c v) = some reply) :
    exec (c.toInstr v) s = .next
      ((afterExchange s c.row.code (c.row.source.valueByte v) reply).reported c.row.result reply) := by
  obtain ⟨v', hi, _, hvalue⟩ := c.asCommand_toInstr_alike v
  have hlegal : c.row.source.accepts v' = true := (Instr.wellFormed_of_asCommand hi).symm.trans hw
  rw [commandFrame, ← hvalue] at hr
  rw [← hvalue]
  exact exec_command_of_reply hi rfl hlegal hs hr

theorem completesAsBool_of_command (hi : i.asCommand = some (c, v))
    (hrow : c.row = ⟨code, source, .bool⟩) (ha : source.accepts v = true) :
    CompletesAsBool i code (source.valueByte v) :=
  fun _ _ hs hr => exec_command_of_reply hi hrow ha hs hr

theorem accepts_operand_of_mem_range {lo hi : Int} (hlo : lo ≤ v) (hhi : v < hi) :
    (ValueSource.operand lo hi).accepts v = true := by
  simp only [ValueSource.accepts, hlo, hhi, decide_true, Bool.and_self]

theorem operandCompletes_of_row {mk : Int → Instr} {lo hi : Int}
    (hmk : ∀ v, (mk v).asCommand = some (c, v)) (hrow : c.row = ⟨code, .operand lo hi, .bool⟩) :
    OperandCompletes mk code lo hi :=
  fun v hlo hhi => completesAsBool_of_command (source := .operand lo hi) (hmk v) hrow
    (accepts_operand_of_mem_range hlo hhi)

theorem commandFailsWithTransport_of_command (hi : i.asCommand = some (c, v))
    (hrow : c.row = ⟨code, source, result⟩) (ha : source.accepts v = true) :
    CommandFailsWithTransport i code (source.valueByte v) := by
  refine failsWithTransport_of_exec (fun s => ⟨_, _, _, _, rfl⟩) fun s k hs hk => ?_
  rw [exec_of_asCommand hi]
  exact runCommand_of_failure hs (by rw [hrow]) (by rw [hrow]) (by rw [hrow]; exact ha) hk

/-- A command that does not decode a status word has no fault but `TransportError`. -/
theorem exec_command_fault_of_not_status {s t : State} (hi : i.asCommand = some (c, v))
    (ha : c.row.source.accepts v = true) (hres : c.row.result ≠ .status)
    (h : exec i s = .next t) : t.fault = .noFault ∨ t.fault = .transport := by
  rw [exec_of_asCommand hi] at h
  rcases whenReady_cases s (commandBody c.row v) with ⟨_, he⟩ | ⟨_, _, he⟩ | ⟨_, he⟩ <;>
    cases he.symm.trans h
  rcases commandBody_cases c.row v s with ⟨hrej, _⟩ | ⟨_, k, _, _, he⟩ | ⟨_, reply, _, _, he⟩
  · exact absurd (hrej.symm.trans ha) Bool.false_ne_true
  · rw [he]
    exact .inr (State.exchangeFailed_fault ..)
  · rw [he]
    cases hr : c.row.result with
    | bool => exact .inl rfl
    | none => exact .inl rfl
    | status => exact absurd hr hres

end

end Sys2Proof.Machine

namespace Sys2Proof.Proofs

open Sys2Proof Sys2Proof.Machine

/-- Settles O21: each of the seven rows has an operand and the result kind `BOOL`. -/
theorem operandCommandsComplete : Obligations.OperandCommandsComplete :=
  ⟨operandCompletes_of_row (c := .assignAddress) (fun _ => rfl) rfl,
    operandCompletes_of_row (c := .setPulsePerTurn) (fun _ => rfl) rfl,
    operandCompletes_of_row (c := .setSpeed) (fun _ => rfl) rfl,
    operandCompletes_of_row (c := .setMaxSpeed) (fun _ => rfl) rfl,
    operandCompletes_of_row (c := .setAcceleration) (fun _ => rfl) rfl,
    operandCompletes_of_row (c := .setSlowdown) (fun _ => rfl) rfl,
    operandCompletes_of_row (c := .setDirection) (fun _ => rfl) rfl⟩

/-- Settles O22: both rows have the fixed VALUE 0x00 and the result kind `BOOL`. -/
theorem motionCommandsComplete : Obligations.MotionCommandsComplete :=
  ⟨completesAsBool_of_command (c := .startMove) (source := .fixed 0x00) rfl rfl rfl,
    completesAsBool_of_command (c := .stopMove) (source := .fixed 0x00) rfl rfl rfl⟩

/-- Settles O23: the report of kind `NONE` writes `RES_KIND` alone; there is no operand to reject and no
status word to decode, so only a primitive can fail. -/
theorem releaseAddressReportsNothing : Obligations.ReleaseAddressReportsNothing := by
  refine ⟨?completes, ?faults, ?fails, by decide +kernel⟩
  case completes =>
    intro s reply hs hr
    exact ⟨exec_command_of_reply (c := .releaseAddress) (source := .fixed 0x00) rfl rfl rfl hs hr,
      rfl, rfl⟩
  case faults =>
    intro s t h
    have hunit : t.unit = s.unit := (exec_command_continues rfl h).unit_eq
    rcases exec_command_fault_of_not_status (c := .releaseAddress) rfl rfl (by decide) h with hf | hf <;>
      rw [hf] <;> exact ⟨hunit, by decide, by decide⟩
  case fails =>
    exact commandFailsWithTransport_of_command (c := .releaseAddress) (source := .fixed 0x00) rfl rfl rfl

/-- Settles O24: a reply of five bytes is reported as the status word of its bytes 1 to 3. -/
theorem queryStateReportsTheStatusWord : Obligations.QueryStateReportsTheStatusWord := by
  intro s r0 r1 r2 r3 r4 hs hr
  have hexec := exec_command_of_reply (i := .queryState) (source := .absent) rfl rfl rfl hs hr
  rw [State.reported_status_five] at hexec
  exact ⟨_, hexec, rfl, rfl, rfl, rfl, statusOf_turn_toNat r1 r2 r3, rfl⟩

/-- Settles O29: both runs report the same reply after the exchange of the same frame, with `FAULT`
cleared at their start. -/
theorem commandResultsDependOnUnitOperandAndReply :
    Obligations.CommandResultsDependOnUnitOperandAndReply := by
  intro c v s1 s2 reply hw hs1 hs2 hunit hr1 hr2
  have hlen := State.exchangeReply_length hr1
  have htx (s : State) := s.txFrame_reported_afterExchange c.row.code (c.row.source.valueByte v)
    c.row.result reply
  have hrx (s : State) := s.rxReply_reported_afterExchange c.row.code (c.row.source.valueByte v)
    c.row.result hlen
  have hfault := (s1.fault_afterExchange c.row.code (c.row.source.valueByte v) reply).trans
    (s2.fault_afterExchange c.row.code (c.row.source.valueByte v) reply).symm
  exact ⟨_, _, exec_toInstr_of_reply hw hs1 hr1, exec_toInstr_of_reply hw hs2 hr2, htx s1,
    by rw [htx s1, htx s2, hunit], hrx s1, hrx s2,
    State.SameResult.reported hfault c.row.result reply⟩

/-- Settles O34: neither the exchange nor the report writes `UNIT`, so the next `query_state` builds its
frame for it. -/
theorem assignAddressDoesNotMoveTheUnit : Obligations.AssignAddressDoesNotMoveTheUnit := by
  intro s t u v reply reply' hs hlo hhi hr hne ht
  obtain ⟨hassign, _⟩ := operandCommandsComplete
  obtain ⟨hack, hunit, hready⟩ : t.ack = true ∧ t.unit = s.unit ∧ t.ready := by
    cases (hassign v hlo hhi s reply hs hr).symm.trans ht
    exact ⟨decide_eq_true hne, rfl, hs⟩
  refine ⟨hack, hunit, fun hr' hu => ?_⟩
  rw [← hunit] at hr' ⊢
  cases (exec_command_of_reply (source := .absent) rfl rfl rfl hready hr').symm.trans hu
  exact t.txFrame_reported_afterExchange 0x50 none .status reply'

end Sys2Proof.Proofs

/-! Taking a fault (60_exceptions.md): which operation a fault can come from (R111 to R113), and what a
command does with an illegal operand, at a failing primitive and with a short reply. -/

namespace Sys2Proof

/-! ### Illegal operands -/

theorem ValueSource.accepts_operand_eq_false_iff {lo hi v : Int} :
    (ValueSource.operand lo hi).accepts v = false ↔ ¬(lo ≤ v ∧ v < hi) := by
  rw [ValueSource.accepts, ← Bool.decide_and, decide_eq_false_iff_not]

/-- Only a row with an operand has something to reject (60_exceptions.md R111). -/
theorem ValueSource.exists_operand_of_not_accepts {source : ValueSource} {v : Int}
    (h : source.accepts v = false) :
    ∃ lo hi, source = .operand lo hi ∧ ¬(lo ≤ v ∧ v < hi) := by
  cases source with
  | operand lo hi => exact ⟨lo, hi, rfl, accepts_operand_eq_false_iff.mp h⟩
  | fixed w => cases h
  | absent => cases h

/-- Only `query_state` reports a status word (42_commands.md R90). -/
theorem Command.result_eq_status_iff {c : Command} : c.row.result = .status ↔ c = .queryState := by
  cases c <;> decide

/-! ### The faults an operation may take -/

/-- The operation may itself write this code to `FAULT`: `VALIDATION` a command whose row refuses the
operand, `PROTOCOL` the two operations that decode a status word (60_exceptions.md R111, R113). The
other two codes are not told apart here. -/
def Instr.MayWriteFault (i : Instr) : Machine.FaultCode → Prop
  | .noFault => True
  | .transport => True
  | .validation => ∃ c v, i.asCommand = some (c, v) ∧ c.row.source.accepts v = false
  | .protocol => i = .queryState ∨ ∃ reply, i = .decodeStatus reply

namespace Machine

open Claims

theorem State.reported_status_short (s : State) {reply : List Byte} (hl : reply.length < 5) :
    s.reported .status reply =
      { s with fault := .protocol, finfo := .protocol .decode reply.length, resKind := .fault } := by
  rw [State.reported, decodeStatus_short hl]

/-- A report leaves `FAULT`, but for a status word that cannot be decoded. -/
theorem State.reported_fault_cases (s : State) (result : CommandResult) (reply : List Byte) :
    (s.reported result reply).fault = s.fault ∨
    (result = .status ∧ (s.reported result reply).fault = .protocol) := by
  cases result with
  | bool => exact .inl rfl
  | none => exact .inl rfl
  | status =>
    simp only [State.reported]
    cases decodeStatus reply with
    | none => exact .inr ⟨trivial, rfl⟩
    | some sw => exact .inl rfl

theorem exec_decodeStatus_short (s : State) {reply : List Byte} (hl : reply.length < 5) :
    exec (.decodeStatus reply) s = .next (s.raise (.protocol .decode reply.length)) := by
  change execDecodeStatus reply s = _
  rw [execDecodeStatus, statusDecode, decodeStatus_short hl]

theorem execDecodeStatus_fault_cases {reply : List Byte} {s t : State}
    (h : execDecodeStatus reply s = .next t) : t.fault = s.fault ∨ t.fault = .protocol := by
  unfold execDecodeStatus at h
  rcases statusDecode_cases reply s with ⟨sw, _, he⟩ | ⟨_, he⟩ <;> rw [he] at h <;> cases h
  · exact .inl rfl
  · exact .inr rfl

theorem execExchange_fault_cases {command : Byte} {value : Option Byte} {s t : State}
    (h : execExchange command value s = .next t) : t.fault = s.fault ∨ t.fault = .transport := by
  rcases execExchange_cases command value s with ⟨_, he⟩ | ⟨_, _, he⟩ | ⟨_, _, he⟩ |
    ⟨_, _, k, _, _, he⟩ | ⟨_, _, reply, _, _, he⟩ <;> cases he.symm.trans h
  · exact .inr (State.exchangeFailed_fault ..)
  · exact .inl rfl

theorem execConstruct_fault_cases {port : PortId} {unit : Int} {timeout : Option Duration}
    {s t : State} (h : execConstruct port unit timeout s = .next t) :
    t.fault = .transport ∨ t.fault = .noFault := by
  rcases execConstruct_cases port unit timeout s with ⟨_, he⟩ | ⟨_, _, he⟩ | ⟨_, _, _, he⟩ |
    ⟨_, _, _, he⟩ <;> cases he.symm.trans h
  · exact .inl rfl
  · exact .inr rfl

theorem execTeardown_fault {s t : State} (h : execTeardown s = .next t) : t.fault = s.fault := by
  rcases execTeardown_cases s with ⟨_, he⟩ | ⟨_, he⟩ <;> cases he.symm.trans h <;> rfl

/-- A command's `FAULT` is its own, by the three ways it can end: the operand is refused, a primitive
fails, or the reply is reported. -/
theorem exec_command_mayWriteFault {i : Instr} {c : Command} {v : Int} {s t : State}
    (hi : i.asCommand = some (c, v)) (h : exec i s = .next t) : i.MayWriteFault t.fault := by
  rw [exec_of_asCommand hi] at h
  rcases whenReady_cases s (commandBody c.row v) with ⟨_, he⟩ | ⟨_, _, he⟩ | ⟨⟨_, hp⟩, he⟩ <;>
    cases he.symm.trans h
  rcases commandBody_cases c.row v s with ⟨hrej, he⟩ | ⟨_, k, _, _, he⟩ | ⟨_, reply, hl, _, he⟩
  · rw [he]
    exact ⟨c, v, hi, hrej⟩
  · rw [he, State.exchangeFailed_fault]
    trivial
  · rw [he, ← afterExchange, interpretReply_afterExchange hp _ _ _ hl]
    rcases State.reported_fault_cases (afterExchange s c.row.code (c.row.source.valueByte v) reply)
      c.row.result reply with hf | ⟨hstatus, hf⟩ <;> rw [hf]
    · trivial
    · rw [Command.result_eq_status_iff.mp hstatus] at hi
      exact .inl (Command.toInstr_of_asCommand hi).symm

/-- An operation keeps `FAULT` or writes a code that it may write. -/
theorem exec_fault_kept_or_written {i : Instr} {s t : State} (h : exec i s = .next t) :
    t.fault = s.fault ∨ i.MayWriteFault t.fault := by
  cases i with
  | construct port unit timeout =>
    rcases execConstruct_fault_cases h with hf | hf <;> rw [hf] <;> exact .inr trivial
  | teardown => exact .inl (execTeardown_fault h)
  | crcClr => cases h; exact .inl rfl
  | crcBit b pos => cases h; exact .inl rfl
  | crcByte b => cases h; rw [crcByteAlone_eq]; exact .inl rfl
  | checksum bytes => cases h; rw [crcChecksum_eq]; exact .inl rfl
  | buildFrame unit command value => cases h; rw [frameBuild_eq]; exact .inl rfl
  | ackTest => cases h; exact .inl rfl
  | decodeStatus reply =>
    refine (execDecodeStatus_fault_cases h).imp_right fun hf => ?_
    rw [hf]
    exact .inr ⟨reply, rfl⟩
  | exchange command value =>
    refine (execExchange_fault_cases h).imp_right fun hf => ?_
    rw [hf]
    trivial
  | assignAddress | releaseAddress | setPulsePerTurn | setSpeed | setMaxSpeed | setAcceleration
  | setSlowdown | setDirection | queryState | startMove | stopMove =>
    exact .inr (exec_command_mayWriteFault rfl h)

/-! ### A command by its row -/

section

variable {mk : Int → Instr} {c : Command} {code : Byte} {lo hi : Int} {result : CommandResult}

theorem operandRejected_of_row (hmk : ∀ v, (mk v).asCommand = some (c, v))
    (hrow : c.row = ⟨code, .operand lo hi, result⟩) : OperandRejected mk code lo hi := by
  intro v s hs hout
  have hrej : c.row.source.accepts v = false := by
    rw [hrow, ValueSource.accepts_operand_eq_false_iff]
    omega
  rw [exec_of_asCommand (hmk v), runCommand, whenReady_of_ready hs, commandBody_of_illegal hrej, hrow]
  rfl

theorem operandFailsWithTransport_of_row (hmk : ∀ v, (mk v).asCommand = some (c, v))
    (hrow : c.row = ⟨code, .operand lo hi, result⟩) : OperandFailsWithTransport mk code lo hi :=
  fun v hlo hhi => commandFailsWithTransport_of_command (source := .operand lo hi) (hmk v) hrow
    (accepts_operand_of_mem_range hlo hhi)

end

/-! ### Short replies -/

/-- A command that completes as `BOOL` on every reply takes no fault on any, and an empty one clears
`ACK`. -/
theorem shortReplyIsNoFault_of_completes {i : Instr} {code : Byte} {value : Option Byte}
    (h : CompletesAsBool i code value) : ShortReplyIsNoFault i code value :=
  fun s reply hs hr => ⟨_, h s reply hs hr, State.fault_afterExchange s code value reply, rfl,
    fun hempty => decide_eq_false (not_not_intro hempty)⟩

theorem operand_shortReplyIsNoFault {mk : Int → Instr} {code : Byte} {lo hi : Int}
    (h : OperandCompletes mk code lo hi) (v : Int) (hlo : lo ≤ v) (hhi : v < hi) :
    ShortReplyIsNoFault (mk v) code (some (BitVec.ofInt 8 v)) :=
  shortReplyIsNoFault_of_completes (h v hlo hhi)

theorem exists_bytes_of_length_five {reply : List Byte} (h : reply.length = 5) :
    ∃ r0 r1 r2 r3 r4, reply = [r0, r1, r2, r3, r4] := by
  match reply, h with
  | [r0, r1, r2, r3, r4], _ => exact ⟨r0, r1, r2, r3, r4, rfl⟩

end Machine

end Sys2Proof

namespace Sys2Proof.Proofs

open Sys2Proof Sys2Proof.Machine

/-- Settles O18: a short reply has no status word, for the raw operation and for the command alike, and
no other operation writes `PROTOCOL`. -/
theorem protocolErrorComesFromShortStatusReplies :
    Obligations.ProtocolErrorComesFromShortStatusReplies := by
  refine ⟨fun s reply hl => exec_decodeStatus_short s hl, ?command, ?only⟩
  case command =>
    intro s reply hs hr hl
    have hexec := exec_command_of_reply (i := .queryState) (source := .absent) rfl rfl rfl hs hr
    rwa [State.reported_status_short _ hl] at hexec
  case only =>
    intro i s t h hf
    rcases exec_fault_kept_or_written h with hkept | hwritten
    · exact .inr (.inr (hkept.symm.trans hf))
    · rw [hf] at hwritten
      exact hwritten.imp_right .inl

/-- Settles O25: each of the seven rows refuses what is outside its range, and an operation that writes
`VALIDATION` is a command whose row refused. -/
theorem illegalOperandsRaiseValidationError : Obligations.IllegalOperandsRaiseValidationError := by
  refine ⟨operandRejected_of_row (c := .assignAddress) (fun _ => rfl) rfl,
    operandRejected_of_row (c := .setPulsePerTurn) (fun _ => rfl) rfl,
    operandRejected_of_row (c := .setSpeed) (fun _ => rfl) rfl,
    operandRejected_of_row (c := .setMaxSpeed) (fun _ => rfl) rfl,
    operandRejected_of_row (c := .setAcceleration) (fun _ => rfl) rfl,
    operandRejected_of_row (c := .setSlowdown) (fun _ => rfl) rfl,
    operandRejected_of_row (c := .setDirection) (fun _ => rfl) rfl, ?only⟩
  case only =>
    intro i s t h hf
    refine (exec_fault_kept_or_written h).imp (fun hkept => hkept.symm.trans hf) fun hwritten => ?_
    rw [hf] at hwritten
    obtain ⟨c, v, hcmd, hrej⟩ := hwritten
    obtain ⟨lo, hi, hsource, hout⟩ := ValueSource.exists_operand_of_not_accepts hrej
    exact ⟨c, v, lo, hi, hcmd, hsource, hout⟩

/-- Settles O26: a legal operand is latched, and the exchange of the started command ends at the failing
primitive. -/
theorem commandsStopAtAFailingPrimitive : Obligations.CommandsStopAtAFailingPrimitive :=
  ⟨operandFailsWithTransport_of_row (c := .assignAddress) (fun _ => rfl) rfl,
    operandFailsWithTransport_of_row (c := .setPulsePerTurn) (fun _ => rfl) rfl,
    operandFailsWithTransport_of_row (c := .setSpeed) (fun _ => rfl) rfl,
    operandFailsWithTransport_of_row (c := .setMaxSpeed) (fun _ => rfl) rfl,
    operandFailsWithTransport_of_row (c := .setAcceleration) (fun _ => rfl) rfl,
    operandFailsWithTransport_of_row (c := .setSlowdown) (fun _ => rfl) rfl,
    operandFailsWithTransport_of_row (c := .setDirection) (fun _ => rfl) rfl,
    commandFailsWithTransport_of_command (c := .releaseAddress) (source := .fixed 0x00) rfl rfl rfl,
    commandFailsWithTransport_of_command (c := .queryState) (source := .absent) rfl rfl rfl,
    commandFailsWithTransport_of_command (c := .startMove) (source := .fixed 0x00) rfl rfl rfl,
    commandFailsWithTransport_of_command (c := .stopMove) (source := .fixed 0x00) rfl rfl rfl⟩

/-- Settles O27: the commands complete on every reply, as their own statements say, and `BUILD_FRAME`
writes neither register. -/
theorem shortRepliesOfSimpleCommandsAreNoFaults :
    Obligations.ShortRepliesOfSimpleCommandsAreNoFaults := by
  obtain ⟨hassign, hpulse, hspeed, hmax, hacc, hslow, hdir⟩ := operandCommandsComplete
  obtain ⟨hstart, hstop⟩ := motionCommandsComplete
  obtain ⟨hrelease, _⟩ := releaseAddressReportsNothing
  refine ⟨operand_shortReplyIsNoFault hassign, operand_shortReplyIsNoFault hpulse,
    operand_shortReplyIsNoFault hspeed, operand_shortReplyIsNoFault hmax,
    operand_shortReplyIsNoFault hacc, operand_shortReplyIsNoFault hslow,
    operand_shortReplyIsNoFault hdir, shortReplyIsNoFault_of_completes hstart,
    shortReplyIsNoFault_of_completes hstop, ?release, ?query, ?build⟩
  case release =>
    intro s reply hs hr
    obtain ⟨hexec, _⟩ := hrelease s reply hs hr
    exact ⟨_, hexec, State.fault_afterExchange s 0xA1 (some 0x00) reply, rfl⟩
  case query =>
    intro s reply hs hl hr
    obtain ⟨r0, r1, r2, r3, r4, rfl⟩ := exists_bytes_of_length_five hl
    obtain ⟨sw, hexec, _⟩ := queryStateReportsTheStatusWord s r0 r1 r2 r3 r4 hs hr
    exact ⟨_, hexec, State.fault_afterExchange s 0x50 none [r0, r1, r2, r3, r4], rfl⟩
  case build =>
    intro s unit command value
    exact ⟨_, exec_buildFrame unit command value s, rfl, rfl⟩

end Sys2Proof.Proofs

/-! Construction, teardown and the ready block (70_reset_and_hazards.md): what an open idle block is
needed for (R132), what `CONSTRUCT` and `TEARDOWN` do (R130, R131), and that a ready block ends every
operation idle (R141). -/

namespace Sys2Proof.Machine

open Claims

/-! ### What needs an open idle block -/

theorem requireReady_of_not_open {s : State} (h : s.isOpen = false)
    (run : State → Host.Outcome State Fault Refusal) : requireReady s run = .refused .notOpen :=
  if_pos h

theorem requireReady_of_busy {s : State} (ho : s.isOpen = true) (hp : s.phase ≠ .idle)
    (run : State → Host.Outcome State Fault Refusal) : requireReady s run = .refused .busy := by
  rw [requireReady, if_neg (by simp [ho]), if_pos hp]

theorem needsReady_of_requireReady {i : Instr} {run : State → Host.Outcome State Fault Refusal}
    (h : ∀ s, exec i s = requireReady s run) : NeedsReady i :=
  fun s => ⟨fun hc => (h s).trans (requireReady_of_not_open hc run),
    fun ho hp => (h s).trans (requireReady_of_busy ho hp run)⟩

theorem needsReady_of_command {i : Instr} {c : Command} {v : Int}
    (hi : i.asCommand = some (c, v)) : NeedsReady i :=
  needsReady_of_requireReady (exec_of_asCommand hi)

theorem needsReady_exchange (command : Byte) (value : Option Byte) :
    NeedsReady (.exchange command value) :=
  needsReady_of_requireReady fun _ => rfl

/-! ### `CONSTRUCT` -/

theorem unitInRange_eq_true_iff {unit : Int} : unitInRange unit = true ↔ 0 ≤ unit ∧ unit < 255 := by
  rw [unitInRange, Bool.and_eq_true, decide_eq_true_iff, decide_eq_true_iff]

theorem portOpen_of_open {s : State}
    (h : (s.answer (.openPort s.portId s.timeout)).failed = false) :
    portOpen s = .ok (s.afterCall (.openPort s.portId s.timeout)) :=
  if_neg (by simp [h])

theorem portOpen_of_failure {s : State}
    (h : (s.answer (.openPort s.portId s.timeout)).failed = true) :
    portOpen s = .error
      ((s.afterCall (.openPort s.portId s.timeout)).loseWorking.raise (.transport .openPort)) :=
  if_pos h

/-- `s` with the configuration of a construction written (70_reset_and_hazards.md R130). -/
def State.configured (s : State) (port : PortId) (unit : Int) (timeout : Option Duration) : State :=
  { s with portId := port, unit := BitVec.ofInt 8 unit, timeout := timeout.getD 1 }

section

variable {s : State} {port : PortId} {unit : Int} {timeout : Option Duration}

/-- The transport's answer does not depend on the configuration written before the call. -/
theorem State.answer_configured (c : PortCall) :
    (s.configured port unit timeout).answer c = s.answer c :=
  State.answer_congr rfl rfl c

theorem exec_construct_of_constructed (hc : s.constructed = true) :
    exec (.construct port unit timeout) s = .refused .alreadyConstructed :=
  if_pos hc

theorem exec_construct_of_unit_out_of_range (hc : s.constructed = false)
    (hu : unitInRange unit = false) :
    exec (.construct port unit timeout) s = .refused .unitOutOfRange := by
  change execConstruct port unit timeout s = _
  rw [execConstruct, if_neg (by simp [hc]), if_neg (by simp [hu])]

theorem exec_construct_of_portOpen_ok {u : State} (hc : s.constructed = false)
    (hu : unitInRange unit = true) (ho : portOpen (s.configured port unit timeout) = .ok u) :
    exec (.construct port unit timeout) s = .next
      { u with isOpen := true, constructed := true, phase := .idle, fault := .noFault,
               trace := [] } := by
  rw [State.configured] at ho
  change execConstruct port unit timeout s = _
  rw [execConstruct, if_neg (by simp [hc]), if_pos hu, Config.defaultTimeout, ho]

theorem exec_construct_of_portOpen_error {u : State} (hc : s.constructed = false)
    (hu : unitInRange unit = true) (ho : portOpen (s.configured port unit timeout) = .error u) :
    exec (.construct port unit timeout) s = .next u := by
  rw [State.configured] at ho
  change execConstruct port unit timeout s = _
  rw [execConstruct, if_neg (by simp [hc]), if_pos hu, Config.defaultTimeout, ho]

end

/-! ### `TEARDOWN` -/

theorem exec_teardown_of_open {s : State} (h : s.isOpen = true) :
    exec .teardown s = .next { s with isOpen := false, calls := s.calls ++ [.closePort] } :=
  if_pos h

theorem exec_teardown_of_closed {s : State} (h : s.isOpen = false) : exec .teardown s = .next s :=
  if_neg (by simp [h])

theorem exec_teardown_closes {s t : State} (h : exec .teardown s = .next t) : t.isOpen = false := by
  rcases execTeardown_cases s with ⟨_, he⟩ | ⟨hc, he⟩ <;> cases he.symm.trans h
  · rfl
  · exact hc

/-! ### A ready block ends every operation -/

theorem exec_command_answers {i : Instr} {c : Command} {v : Int} {s : State}
    (hi : i.asCommand = some (c, v)) (hs : s.ready) : ∃ t, exec i s = .next t :=
  ⟨_, (exec_of_asCommand hi s).trans (whenReady_of_ready hs (commandBody c.row v))⟩

theorem exec_decodeStatus_answers (reply : List Byte) (s : State) :
    ∃ t, exec (.decodeStatus reply) s = .next t := by
  change ∃ t, execDecodeStatus reply s = .next t
  unfold execDecodeStatus
  rcases statusDecode_cases reply s with ⟨sw, _, he⟩ | ⟨_, he⟩ <;> rw [he] <;> exact ⟨_, rfl⟩

theorem exec_teardown_answers (s : State) : ∃ t, exec .teardown s = .next t := by
  rcases execTeardown_cases s with ⟨_, he⟩ | ⟨_, he⟩ <;> exact ⟨_, he⟩

/-- On a ready block only `CONSTRUCT` and an `EXCHANGE` of an unassigned code can be refused. -/
theorem exec_answers_of_ready {i : Instr} {s : State} (hs : s.ready)
    (hconstruct : ∀ port unit timeout, i ≠ .construct port unit timeout)
    (hexchange : ∀ code value, i = .exchange code value → ∃ c : Command, c.row.code = code) :
    ∃ t, exec i s = .next t := by
  cases i with
  | construct port unit timeout => exact absurd rfl (hconstruct port unit timeout)
  | exchange command value =>
    obtain ⟨c, rfl⟩ := hexchange command value rfl
    exact ⟨_, exec_exchange_of_assigned hs c value⟩
  | decodeStatus reply => exact exec_decodeStatus_answers reply s
  | teardown => exact exec_teardown_answers s
  | crcClr | crcBit | crcByte | checksum | buildFrame | ackTest => exact ⟨_, rfl⟩
  | assignAddress | releaseAddress | setPulsePerTurn | setSpeed | setMaxSpeed | setAcceleration
  | setSlowdown | setDirection | queryState | startMove | stopMove =>
    exact exec_command_answers rfl hs

/-- `PHASE` is `IDLE` between operations (10_state.md R19). -/
theorem exec_keeps_idle {i : Instr} {s t : State} (hp : s.phase = .idle) (h : exec i s = .next t) :
    t.phase = .idle := by
  rcases exec_next_cases h with ⟨port, unit, timeout, _, hx⟩ | ⟨_, hx⟩ | hx
  · rcases execConstruct_cases port unit timeout s with ⟨_, he⟩ | ⟨_, _, he⟩ | ⟨_, _, _, he⟩ |
      ⟨_, _, _, he⟩ <;> cases he.symm.trans hx <;> rfl
  · rcases execTeardown_cases s with ⟨_, he⟩ | ⟨_, he⟩ <;> cases he.symm.trans hx <;> exact hp
  · exact hx.phase.elim (fun he => he.trans hp) id

/-- Only `TEARDOWN` closes an open block: `CONSTRUCT`, the other operation that writes `OPEN`, never
clears it. -/
theorem exec_keeps_open {i : Instr} {s t : State} (ho : s.isOpen = true) (hi : i ≠ .teardown)
    (h : exec i s = .next t) : t.isOpen = true := by
  rcases exec_next_cases h with ⟨port, unit, timeout, _, hx⟩ | ⟨he, _⟩ | hx
  · rcases execConstruct_cases port unit timeout s with ⟨_, he⟩ | ⟨_, _, he⟩ | ⟨_, _, _, he⟩ |
      ⟨_, _, _, he⟩ <;> cases he.symm.trans hx
    · exact ho
    · rfl
  · exact absurd he hi
  · exact hx.isOpen_eq.trans ho

end Sys2Proof.Machine

namespace Sys2Proof.Proofs

open Sys2Proof Sys2Proof.Machine

/-- Settles O36: the operation answers, and what answers on an open idle block leaves it idle, and open
unless it is `TEARDOWN`. -/
theorem everyOperationEndsWithTheBlockIdle : Obligations.EveryOperationEndsWithTheBlockIdle := by
  intro i s hs _ hconstruct hexchange
  obtain ⟨t, ht⟩ := exec_answers_of_ready hs hconstruct hexchange
  obtain ⟨ho, hp⟩ := hs
  exact ⟨t, ht, exec_keeps_idle hp ht, fun hi => exec_keeps_open ho hi ht⟩

/-- Settles O28: the commands share one routine, and it and `EXCHANGE` start with the same
requirement. -/
theorem commandsNeedAnOpenIdleBlock : Obligations.CommandsNeedAnOpenIdleBlock :=
  ⟨fun _ => ⟨needsReady_of_command rfl, needsReady_of_command rfl, needsReady_of_command rfl,
      needsReady_of_command rfl, needsReady_of_command rfl, needsReady_of_command rfl,
      needsReady_of_command rfl⟩,
    needsReady_of_command rfl, needsReady_of_command rfl, needsReady_of_command rfl,
    needsReady_of_command rfl, needsReady_exchange⟩

/-- Settles O30: with the configuration written the transport opens, and the call's answer is used
up. -/
theorem constructOpensTheTransport : Obligations.ConstructOpensTheTransport := by
  intro s port unit timeout hc hlo hhi hopen
  have hok := portOpen_of_open (s := s.configured port unit timeout)
    (by rw [State.answer_configured]; exact hopen)
  rw [exec_construct_of_portOpen_ok hc (unitInRange_eq_true_iff.mpr ⟨hlo, hhi⟩) hok, List.drop_one]
  rfl

/-- Settles O31: the flag and the unit are looked at before the call; a call that fails loses the
working registers and takes the fault. -/
theorem constructFailsOrIsRefused : Obligations.ConstructFailsOrIsRefused := by
  intro s port unit timeout
  refine ⟨exec_construct_of_constructed, ?outOfRange, ?fails⟩
  case outOfRange =>
    intro hc hout
    refine exec_construct_of_unit_out_of_range hc (Bool.eq_false_iff.mpr fun hu => ?_)
    obtain ⟨hlo, hhi⟩ := unitInRange_eq_true_iff.mp hu
    omega
  case fails =>
    intro hc hlo hhi hfail
    have herror := portOpen_of_failure (s := s.configured port unit timeout)
      (by rw [State.answer_configured]; exact hfail)
    refine ⟨_, exec_construct_of_portOpen_error hc (unitInRange_eq_true_iff.mpr ⟨hlo, hhi⟩) herror,
      ?_⟩
    rw [List.drop_one]
    rfl

/-- Settles O32: whatever block a teardown ran on is closed after it, so the next one leaves it as it is
and commands find it not open. -/
theorem teardownClosesTheTransportOnce : Obligations.TeardownClosesTheTransportOnce := by
  refine ⟨fun s => exec_teardown_of_open, fun s => exec_teardown_of_closed, fun s t h => ?_⟩
  have hclosed := exec_teardown_closes h
  have hrefused {i : Instr} (hi : Claims.NeedsReady i) : exec i t = .refused .notOpen :=
    (hi t).1 hclosed
  exact ⟨exec_teardown_of_closed hclosed, hrefused (needsReady_of_command rfl),
    hrefused (needsReady_of_command rfl)⟩

end Sys2Proof.Proofs
